-- ==== Sys2Proof/Word.lean ====
section
/-! DEFINITION. The words of the SpaceLiin frame core: a byte, a 16-bit word, a 32-bit counter and the 64-bit pattern of an
IEEE-754 binary64 number (00_scope.md R10). -/

namespace Sys2Proof

/-- A byte, 0..255; bit 0 is the least significant bit (R10). -/
abbrev Byte := BitVec 8

/-- A 16-bit word: a CRC register, a transmitted checksum, a raw telemetry reading (R10). -/
abbrev Word16 := BitVec 16

/-- A statistics counter, CNT_WIDTH = 32 bits (R9, R32). -/
abbrev Counter := BitVec 32

/-- The 64-bit pattern of a binary64 number: bit 63 sign, bits 62:52 exponent, bits 51:0 fraction (R81). -/
abbrev F64 := BitVec 64

end Sys2Proof
end

