-- ==== Sys2Proof/Config.lean ====
section
/-! DEFINITION. The configuration of the block (10_state.md R22): the parameters spec/ leaves OPEN (00_scope.md R9,
92_eei_decisions.md "Open parameters"). Each is an opaque constant: nothing can be proved of its value, so a statement holds for
every value. They are fixed for a run (D38). -/

namespace Sys2Proof

/-- The framing mode of R23: RF delimits frames by sentinels, RS422 by a byte count. RF = 0, RS422 = 1 (D48). -/
inductive Mode where
  | rf
  | rs422
deriving DecidableEq, Repr, Inhabited

/-- The raw pass-through toggle of R24: FRAMED = 0, RAW = 1. -/
inductive Bypass where
  | framed
  | raw
deriving DecidableEq, Repr, Inhabited

/-- The divisor of a 16-bit field (R185, R188): 1, 10 or 100. -/
inductive Scale where
  | one
  | ten
  | hundred
deriving DecidableEq, Repr, Inhabited

/-- What one of PMU[8..11] measures (R188, D32). -/
inductive PmuQuantity where
  | inputVoltage
  | inputCurrent
  | outputVoltage
  | outputCurrent
deriving DecidableEq, Repr, Inhabited

/-- RESET_MODE: the mode after reset, OPEN (R9, R23, D4). Log entry 1. -/
opaque Config.resetMode : Mode

/-- How far RF_BODY_CAP lies above its least value 564 (R9, D9). Log entry 2. -/
opaque Config.rfBodyCapExcess : Nat

/-- IOU_SCALE[i], i = 1..14, OPEN (R188, D31). Log entry 3. -/
opaque Config.iouScale : Nat → Scale

/-- IOU_FAIL[i], i = 1..14, OPEN (R188, D31). Log entry 3. -/
opaque Config.iouFail : Nat → Bool

/-- INERT_SCALE[j], j = 0..6, OPEN (R188, D34). Log entry 3. -/
opaque Config.inertScale : Nat → Scale

/-- PDU_SCALE[k], k = 0..17, OPEN (R188, D33). Log entry 3. -/
opaque Config.pduScale : Nat → Scale

/-- PMU_SCALE[i], i = 4..11, OPEN (R188, D32). Log entry 3. -/
opaque Config.pmuScale : Nat → Scale

/-- Which of the 24 orders PMU_ORDER_8_11 is, OPEN and naming only (D32, I13): taken modulo 24. Log entry 4. -/
opaque Config.pmuOrderIndex : Nat

/-- The bits of the NaN an addition of opposite infinities would give; spec/ gives none. Log entry 13. -/
opaque Config.f64Nan : F64

end Sys2Proof
end

