-- ==== Sys2Proof/Machine/Params.lean ====
section
/-! DEFINITION. The fixed parameters of 00_scope.md R8, as spec/ states them, and RF_BODY_CAP of R9. -/

namespace Sys2Proof.Machine

/-- FRAME_LEN: the length of a de-stuffed frame, sentinels included. -/
abbrev frameLen : Nat := 284

/-- RS422_BODY: raw bytes of one frame in mode RS422. -/
abbrev rs422Body : Nat := 282

/-- SENT_START, frame offset 0. -/
abbrev sentStart : Byte := 0xCA

/-- SENT_END, frame offset 283. -/
abbrev sentEnd : Byte := 0xEF

/-- ESC, the escape byte. -/
abbrev escByte : Byte := 0xBD

/-- ESC_CODE_CA: the coded byte that resolves to 0xCA. -/
abbrev escCodeCA : Byte := 0xDC

/-- ESC_CODE_EF: the coded byte that resolves to 0xEF. -/
abbrev escCodeEF : Byte := 0xDE

/-- ESC_CODE_BD: the coded byte that resolves to 0xBD. -/
abbrev escCodeBD : Byte := 0xDB

/-- CRC_POLY. -/
abbrev crcPoly : Word16 := 0x1021

/-- CRC_INIT. -/
abbrev crcInit : Word16 := 0x0000

/-- CRC_LO: first frame offset the CRC covers (D10, conflict C3). -/
abbrev crcLo : Nat := 2

/-- The number of bytes the CRC covers, offsets CRC_LO = 2 to CRC_HI = 279. -/
abbrev crcLen : Nat := 278

/-- CKSUM_OFF: offset of the checksum's high byte. -/
abbrev cksumOff : Nat := 280

/-- TAG_OFF: offset of the type tag, which is also the image sequence index (D11, conflict C1). -/
abbrev tagOff : Nat := 2

/-- TAG_TELEMETRY. -/
abbrev tagTelemetry : Byte := 0xFF

/-- IMG_FIRST: the sequence index that starts a new assembly. -/
abbrev imgFirst : Byte := 0x00

/-- IMG_LAST: the sequence index that closes an assembly. -/
abbrev imgLast : Byte := 0x1A

/-- IMG_MAX_CHUNKS: the chunk count that closes an assembly. -/
abbrev imgMaxChunks : Nat := 27

/-- IMG_LO: first offset of the image payload slice (D12, conflict C2). -/
abbrev imgLo : Nat := 3

/-- IMG_LEN: length of the image payload slice, offsets 3..280. -/
abbrev imgLen : Nat := 278

/-- GPS_MIN_LEN: the frame length from which the GPS block is decoded (R195). -/
abbrev gpsMinLen : Nat := 160

/-- FAIL_LO: the lower raw value that means sensor fail (R184). -/
abbrev failLo : Int := -32768

/-- FAIL_HI: the upper raw value that means sensor fail (R184). -/
abbrev failHi : Int := 32767

/-- ASCII 'S', which negates a latitude (R78, R200). -/
abbrev asciiS : Byte := 0x53

/-- ASCII 'W', which negates a longitude (R78, R200). -/
abbrev asciiW : Byte := 0x57

/-- RF_BODY_CAP: the most body bytes of a mode-RF frame the accumulation holds, OPEN with the least value 564 (R9, R145, D9);
every value from 564 up is allowed. Log entry 2. -/
def rfBodyCap : Nat := Config.rfBodyCapExcess + 564

end Sys2Proof.Machine
end

