-- ==== Sys2Proof/Syntax.lean ====
section
/-! DEFINITION. The tokens of spec/opcode_table.json, one constructor per row (30_encoding.md R90), and the contexts in which a
decoder reads them (R87: which table applies is chosen by the context, not by the byte). -/

namespace Sys2Proof

/-- Which coordinate a hemisphere byte belongs to: FB[149] or FB[158] (R78). -/
inductive Coordinate where
  | latitude
  | longitude
deriving DecidableEq, Repr

/-- The decoding context of a token, the column fields.context of the opcode table (R87, R90). -/
inductive TokenContext where
  /-- a stream byte, bypass FRAMED, mode RF -/
  | streamRf
  /-- a stream byte, bypass FRAMED, mode RS422 -/
  | streamRs422
  /-- a stream byte, bypass RAW, either mode -/
  | streamRaw
  /-- the raw bytes of a mode-RF frame, in the de-stuffer -/
  | destuff
  /-- the tag byte FB[2] of an Ok frame -/
  | tag
  /-- a PDU status byte FB[58 + 3k] -/
  | status
  /-- the latitude hemisphere byte FB[149] -/
  | latHemisphere
  /-- the longitude hemisphere byte FB[158] -/
  | lonHemisphere
  /-- a host command word -/
  | command
  /-- the transport-error signal, which carries no bits -/
  | signal
deriving DecidableEq, Repr

/-- One token the block reacts to; the row's rule is named beside each. -/
inductive Instr where
  /-- RF_START, R141 -/
  | rfStart
  /-- RF_END, R142 -/
  | rfEnd
  /-- RF_DATA, R143 -/
  | rfData (b : Byte)
  /-- RS_DATA, R146 -/
  | rsData (b : Byte)
  /-- RAW_BYPASS, R150 -/
  | rawBypass (b : Byte)
  /-- DS_LIT, R101 -/
  | dsLit (b : Byte)
  /-- DS_ESC_CA, R102 -/
  | dsEscCA
  /-- DS_ESC_EF, R103 -/
  | dsEscEF
  /-- DS_ESC_BD, R104 -/
  | dsEscBD
  /-- DS_ESC_BAD, R105: the coded byte of an undefined pair -/
  | dsEscBad (code : Byte)
  /-- DS_ESC_TRUNC, R106 -/
  | dsEscTrunc
  /-- FT_TELEMETRY, R181 -/
  | ftTelemetry
  /-- FT_IMG_FIRST, R231 -/
  | ftImgFirst
  /-- FT_IMG_LAST, R232 -/
  | ftImgLast
  /-- FT_IMG_MID, R233: the sequence index -/
  | ftImgMid (tag : Byte)
  /-- STAT_OFF, R187 -/
  | statOff
  /-- STAT_READY, R187 -/
  | statReady
  /-- STAT_OVER_VOLTAGE, R187 -/
  | statOverVoltage
  /-- STAT_OVER_CURRENT, R187 -/
  | statOverCurrent
  /-- STAT_ON, R187 -/
  | statOn
  /-- STAT_UNKNOWN, R187: the raw status byte -/
  | statUnknown (x : Byte)
  /-- HEMI_LAT_S, R200 -/
  | hemiLatS
  /-- HEMI_LON_W, R200 -/
  | hemiLonW
  /-- HEMI_OTHER, R200: the coordinate whose byte it is, and the byte -/
  | hemiOther (c : Coordinate) (h : Byte)
  /-- CMD_SET_MODE, R271: the argument A as the mode it selects -/
  | cmdSetMode (m : Mode)
  /-- CMD_SET_BYPASS, R272: the argument A as the setting it selects -/
  | cmdSetBypass (p : Bypass)
  /-- CMD_RESET_COUNTERS, R273 -/
  | cmdResetCounters
  /-- CMD_STOP, R274 -/
  | cmdStop
  /-- CMD_ILLEGAL, R276: the command word -/
  | cmdIllegal (w : Byte)
  /-- SRC_TRANSPORT_ERROR, R275 -/
  | srcTransportError
deriving DecidableEq, Repr

end Sys2Proof
end

