-- ==== Sys2Proof/Machine/State.lean ====
section
/-! DEFINITION. The architectural state of the block (10_state.md), what it emits (45_stats_dispatch.md R254), what it takes
(30_encoding.md R70), the two reasons a step can stop, and the state after reset (70_reset_and_hazards.md R330). -/

namespace Sys2Proof.Machine

/-- A byte-addressed buffer (20_memory.md R50): address a holds the a-th byte; an address past the end holds no value. -/
abbrev Memory := List Byte

/-- The run state of R25: RUNNING = 0, STOPPED = 1, FAULTED = 2; the value 3 is never held. -/
inductive RunState where
  | running
  | stopped
  | faulted
deriving DecidableEq, Repr

/-- The outcome of a candidate frame (R254, R300); a DecodeAmbiguity is a `lengthInvalid` (R303). -/
inductive FrameOutcome where
  | ok
  | lengthInvalid
  | checksumInvalid
deriving DecidableEq, Repr

/-- The enumerator of a status byte (R77, R187, R203); an unknown one keeps its raw byte. -/
inductive Status where
  | off
  | ready
  | overVoltage
  | overCurrent
  | on
  | unknown (raw : Byte)
deriving DecidableEq, Repr

/-- A 16-bit reading (R203): the FAIL marker, or the signed raw value with its divisor, never a rounded number (R185). -/
inductive Reading where
  | fail
  | val (v : Int) (s : Scale)
deriving DecidableEq, Repr

/-- A converted coordinate (R203): NONFINITE, or a binary64 pattern. -/
inductive Coord where
  | nonfinite
  | finite (x : F64)
deriving DecidableEq, Repr

/-- Time and date, five raw bytes (R189). -/
structure TimeFields where
  sec : Byte
  min : Byte
  hour : Byte
  day : Byte
  month : Byte
deriving DecidableEq, Repr

/-- One telemetry record (R181, R203): 15 IOU readings, 4 RGBW bytes, 7 inertial readings, 18 PDU pairs, 12 PMU readings. -/
structure TelemetryRecord where
  time : TimeFields
  iou : List Reading
  rgbw : List Byte
  ir : Byte
  inert : List Reading
  pdu : List (Status × Reading)
  pmu : List Reading
deriving DecidableEq, Repr

/-- One GPS fix (R196, R203). -/
structure GpsFix where
  hh : Byte
  mm : Byte
  ss : Byte
  hs : Byte
  lat : Coord
  lon : Coord
deriving DecidableEq, Repr

/-- An output event (R254). -/
inductive Event where
  | outcome (o : FrameOutcome)
  | telemetry (rec : TelemetryRecord) (gps : Option GpsFix)
  | image (buf : List Byte)
  | raw (b : Byte)
  | transportError
deriving DecidableEq, Repr

/-- One input (R70, R270): a stream byte, a host command word or the transport-error signal. -/
inductive Input where
  | byte (b : Byte)
  | cmd (w : Byte)
  | terr
deriving DecidableEq, Repr

/-- The state of the block. -/
structure State where
  /-- `st.mode`, R23 -/
  mode : Mode
  /-- `st.bypass`, R24 -/
  bypass : Bypass
  /-- `st.run`, R25 -/
  run : RunState
  /-- `st.acc`, the buffer ACC, R26 -/
  acc : Memory
  /-- `st.inside`, R27 -/
  inside : Bool
  /-- `st.acc_over`, R28 -/
  accOver : Bool
  /-- `st.img_open`, R29 -/
  imgOpen : Bool
  /-- `st.img_count`, R30 -/
  imgCount : Nat
  /-- `st.img_buf`, the buffer IMG, R31 -/
  imgBuf : Memory
  /-- `st.cnt_frames`, R32 -/
  cntFrames : Counter
  /-- `st.cnt_images`, R32 -/
  cntImages : Counter
  /-- `st.cnt_len_fail`, R32 -/
  cntLenFail : Counter
  /-- `st.cnt_crc_fail`, R32 -/
  cntCrcFail : Counter
  /-- `st.events`, R36, oldest first -/
  events : List Event
  /-- `st.refused`, R39: a mark of the model, not hardware state -/
  refused : Bool
  /-- `FB`, R35: the candidate frame inside the step that completes it, empty between steps. Log entry 9. -/
  fb : Memory
  /-- the `d` of R107, the bytes de-stuffed so far; empty between steps. Log entry 9. -/
  dsOut : Memory
  /-- the `i` of R107, the scan index; 0 between steps. Log entry 9. -/
  dsPos : Nat
  /-- the verdict `Ambiguous` of R100; 0 between steps. Log entry 9. -/
  dsAmbiguous : Bool
  /-- the statuses of the telemetry record under decoding (R181, R187); empty between steps. Log entry 9. -/
  pduStatuses : List Status
  /-- the `x` of the latitude's conversion (R197); +0.0 between steps. Log entry 9. -/
  latitude : Coord
  /-- the `x` of the longitude's conversion (R197); +0.0 between steps. Log entry 9. -/
  longitude : Coord
  /-- THE MODEL'S OWN: the merged sequence of inputs not taken yet (R270, R278), oldest first. Log entry 6. -/
  inputs : List Input
  /-- THE MODEL'S OWN: bytes presented directly to one sub-unit's decoder; no step fills it. Log entry 7. -/
  unitToken : Option (TokenContext × List Byte)
deriving DecidableEq, Repr

/-- Why a step stops with a fault. -/
inductive Fault where
  /-- Raised by a step whose sub-unit latch `unitToken` holds a context that needs a byte and no byte. No run from reset reaches
  it, because no step fills the latch (log entries 7 and 12). Safe: the model stops where spec/ has no token to read. -/
  | noToken (c : TokenContext)
deriving DecidableEq, Repr

/-- Why a step is refused. -/
inductive Refusal where
  /-- Raised by the dispatch for an instruction that has no meaning yet; no arm of this model raises it. Safe: it only stops. -/
  | notModelled (mnemonic : String)
deriving DecidableEq, Repr

/-- The state after reset (R330, R38): the mode is the OPEN parameter RESET_MODE (log entry 1), every other element of R330 as
the rule gives it; the transient elements and the model's own fields are empty (log entries 6, 7, 9). -/
def State.reset : State where
  mode := Config.resetMode
  bypass := .framed
  run := .running
  acc := []
  inside := false
  accOver := false
  imgOpen := false
  imgCount := 0
  imgBuf := []
  cntFrames := 0
  cntImages := 0
  cntLenFail := 0
  cntCrcFail := 0
  events := []
  refused := false
  fb := []
  dsOut := []
  dsPos := 0
  dsAmbiguous := false
  pduStatuses := []
  latitude := .finite 0
  longitude := .finite 0
  inputs := []
  unitToken := none

end Sys2Proof.Machine
end

