-- ==== Sys2Proof/Machine/Flags.lean ====
section
/-! DEFINITION. The block's flags: `st.inside`, `st.acc_over`, `st.img_open`, the run state and the refused mark. It has no
condition codes. -/

namespace Sys2Proof.Machine

/-- A start sentinel opens a frame: the accumulation holds the sentinel alone (R141, D5). -/
def beginFrame (s : State) : State :=
  { s with acc := [sentStart], inside := true, accOver := false }

/-- `clear_framer` (R152): the accumulation and its two flags. -/
def clearFramer (s : State) : State :=
  { s with acc := [], inside := false, accOver := false }

/-- A body byte past RF_BODY_CAP sets `st.acc_over` (R145). -/
def markOver (s : State) : State :=
  { s with accOver := true }

/-- A new image assembly (R234). -/
def openAssembly (s : State) : State :=
  { s with imgOpen := true, imgCount := 0, imgBuf := [] }

/-- No image assembly open (R237). -/
def closeAssembly (s : State) : State :=
  { s with imgOpen := false, imgCount := 0, imgBuf := [] }

/-- `st.run <- r` (R274, R275). -/
def setRun (r : RunState) (s : State) : State :=
  { s with run := r }

/-- `refuse` (R13, R276): the mark is set and nothing else changes. -/
def refuse (s : State) : State :=
  { s with refused := true }

/-- Inputs are taken only while RUNNING and not refused (R270, R277). -/
def acceptsInput (s : State) : Bool :=
  !s.refused && s.run == .running

end Sys2Proof.Machine
end

