-- ==== Sys2Proof/Machine/Ops.lean ====
section
/-! DEFINITION. The named operations over the buffers, the counters and the event list, and the one way a per-frame error or
success is taken (00_scope.md R13; 20_memory.md; 45_stats_dispatch.md; 60_exceptions.md R307). -/

namespace Sys2Proof.Machine

/-! ### Buffers -/

/-- The byte at an address; nothing past the end of the buffer (R51). -/
def memByte (m : Memory) (a : Nat) : Option Byte := m[a]?

/-- `MemRead(buf, a, n)` (R13): the bytes a .. a+n-1; nothing where one of them lies past the end (R51). -/
def memRead (m : Memory) (a n : Nat) : Option (List Byte) :=
  if a + n ≤ m.length then some ((m.drop a).take n) else none

/-- `MemWrite` at the end of a buffer, the only write ACC and IMG know (R50, R56). -/
def memAppend (m : Memory) (bs : List Byte) : Memory := m ++ bs

/-- A buffer as (address, byte) pairs. -/
def memCells (m : Memory) : List Host.Cell := m.zipIdx.map fun p => (p.2, p.1)

/-- The canonical form: the addresses rise strictly. An unlisted address holds no value, so every listed byte differs from it. -/
def Memory.wf (m : Memory) : Bool :=
  decide (((memCells m).map Prod.fst).Pairwise (· < ·))

/-- A raw byte appended to the accumulation (R143, R146). -/
def appendAcc (b : Byte) (s : State) : State :=
  { s with acc := memAppend s.acc [b] }

/-- The image append of R235: the slice at address 278 × count, and the count. -/
def appendChunk (slice : List Byte) (s : State) : State :=
  { s with imgBuf := memAppend s.imgBuf slice, imgCount := s.imgCount + 1 }

/-- The candidate frame enters FB (R35, R144, R147). -/
def loadFrame (fb : Memory) (s : State) : State :=
  { s with fb := fb }

/-- FB is destroyed after being dispatched (R35). -/
def consumeFrame (s : State) : State :=
  { s with fb := [] }

/-! ### The transient registers of the de-stuffer and of the telemetry decoder -/

/-- The de-stuffer at the start of a frame, and after it: no output, index 0, no verdict (R107). -/
def clearDestuffer (s : State) : State :=
  { s with dsOut := [], dsPos := 0, dsAmbiguous := false }

/-- `d <- d ++ [b]; i <- i + n` (R101 to R104). -/
def destuffed (b : Byte) (n : Nat) (s : State) : State :=
  { s with dsOut := memAppend s.dsOut [b], dsPos := s.dsPos + n }

/-- `return Ambiguous` (R105, R106). -/
def ambiguous (s : State) : State :=
  { s with dsAmbiguous := true }

/-- The telemetry decoder with no record under decoding. -/
def clearExtractor (s : State) : State :=
  { s with pduStatuses := [], latitude := .finite 0, longitude := .finite 0 }

/-- The next rail's status of the record under decoding (R181, R187). -/
def pushStatus (e : Status) (s : State) : State :=
  { s with pduStatuses := s.pduStatuses ++ [e] }

/-! ### The model's own input registers (log entries 6 and 7) -/

/-- The inputs not taken yet. -/
def setInputs (xs : List Input) (s : State) : State :=
  { s with inputs := xs }

/-- The sub-unit latch. -/
def setUnitToken (u : Option (TokenContext × List Byte)) (s : State) : State :=
  { s with unitToken := u }

/-! ### Events and counters -/

/-- `emit(ev)` (R13, R254): the list grows at its end; it never waits and never fails (R256). -/
def emit (e : Event) (s : State) : State :=
  { s with events := s.events ++ [e] }

/-- `count_outcome` (R250); the counters wrap modulo 2^32 (R252). -/
def countOutcome (o : FrameOutcome) (s : State) : State :=
  { s with
    cntFrames := s.cntFrames + 1
    cntLenFail := if o = .lengthInvalid then s.cntLenFail + 1 else s.cntLenFail
    cntCrcFail := if o = .checksumInvalid then s.cntCrcFail + 1 else s.cntCrcFail }

/-- `count_image` (R251). -/
def countImage (s : State) : State :=
  { s with cntImages := s.cntImages + 1 }

/-- All four counters to zero in one step (R273, R62). -/
def zeroCounters (s : State) : State :=
  { s with cntFrames := 0, cntImages := 0, cntLenFail := 0, cntCrcFail := 0 }

/-! ### The error taxonomy (R300) -/

/-- A per-frame error (R300, codes 1 to 3). -/
inductive FrameError where
  | lengthInvalid
  | checksumInvalid
  | decodeAmbiguity
deriving DecidableEq, Repr

/-- The code of a candidate frame's error, or of none (R300, D48). -/
def errorCode : Option FrameError → Nat
  | none => 0
  | some .lengthInvalid => 1
  | some .checksumInvalid => 2
  | some .decodeAmbiguity => 3

/-- The code of the transport error (R300, D48). -/
def transportErrorCode : Nat := 4

/-- The outcome an error, or none, is reported as; a DecodeAmbiguity has no name of its own (R300, R303). -/
def reportedOutcome : Option FrameError → FrameOutcome
  | none => .ok
  | some .lengthInvalid => .lengthInvalid
  | some .checksumInvalid => .checksumInvalid
  | some .decodeAmbiguity => .lengthInvalid

/-! ### Taking a frame's outcome

Taking a per-frame error is this one operation (R307): the counters and the OUTCOME event. Nothing is saved, there is no handler
and no return operation (R307, R308). The framer state is cleared before it, by the token that completes the frame. -/

/-- `count_outcome` then `emit(OUTCOME)` (R148, R255). -/
def reportOutcome (o : FrameOutcome) (s : State) : State :=
  emit (.outcome o) (countOutcome o s)

/-- Taking the fatal transport error (R275, R304): the event, then FAULTED. -/
def takeTransportError (s : State) : State :=
  setRun .faulted (emit .transportError s)

/-- `deliver_image` (R237): the IMAGE event, the image counter, then no assembly open. -/
def deliverImage (s : State) : State :=
  closeAssembly (countImage (emit (.image s.imgBuf) s))

/-! ### The host's view -/

/-- The status view (R33), one atomic snapshot; observing is not a step. -/
structure StatusView where
  mode : Mode
  bypass : Bypass
  run : RunState
  cntFrames : Counter
  cntImages : Counter
  cntLenFail : Counter
  cntCrcFail : Counter
deriving DecidableEq, Repr

/-- `status(st)` (R33). -/
def statusView (s : State) : StatusView where
  mode := s.mode
  bypass := s.bypass
  run := s.run
  cntFrames := s.cntFrames
  cntImages := s.cntImages
  cntLenFail := s.cntLenFail
  cntCrcFail := s.cntCrcFail

/-- MODE's code (R23, D48). -/
def modeCode : Mode → Nat
  | .rf => 0
  | .rs422 => 1

/-- BYPASS's code (R24, D48). -/
def bypassCode : Bypass → Nat
  | .framed => 0
  | .raw => 1

/-- RUN's code (R25, D48). -/
def runCode : RunState → Nat
  | .running => 0
  | .stopped => 1
  | .faulted => 2

/-- The view numbered as registers 0 to 6 (R33); no other register exists. -/
def statusRegister (v : StatusView) : Nat → Option Nat
  | 0 => some (modeCode v.mode)
  | 1 => some (bypassCode v.bypass)
  | 2 => some (runCode v.run)
  | 3 => some v.cntFrames.toNat
  | 4 => some v.cntImages.toNat
  | 5 => some v.cntLenFail.toNat
  | 6 => some v.cntCrcFail.toNat
  | _ => none

end Sys2Proof.Machine
end

