-- ==== Sys2Proof/Machine/Control.lean ====
section
/-! DEFINITION. Host commands and the transport-error signal (46_control.md R271 to R276). -/

namespace Sys2Proof.Machine

/-- CMD_SET_MODE (R271): the mode, and the accumulation is discarded even where the mode stays (D24). -/
def cmdSetMode (m : Mode) (s : State) : State := clearFramer { s with mode := m }

/-- CMD_SET_BYPASS (R272): the toggle, and the accumulation is discarded; the mode is kept. -/
def cmdSetBypass (p : Bypass) (s : State) : State := clearFramer { s with bypass := p }

/-- CMD_RESET_COUNTERS (R273): all four in one step. -/
def cmdResetCounters (s : State) : State := zeroCounters s

/-- CMD_STOP (R274): no event, nothing else changes. -/
def cmdStop (s : State) : State := setRun .stopped s

/-- CMD_ILLEGAL (R276): the refused mark and nothing else. -/
def cmdIllegal (_w : Byte) (s : State) : State := refuse s

/-- SRC_TRANSPORT_ERROR (R275). -/
def srcTransportError (s : State) : State := takeTransportError s

/-- Meaning of CMD_SET_MODE (R271). -/
def execCmdSetMode (m : Mode) (s : State) : Host.Outcome State Fault Refusal := .next (cmdSetMode m s)

/-- Meaning of CMD_SET_BYPASS (R272). -/
def execCmdSetBypass (p : Bypass) (s : State) : Host.Outcome State Fault Refusal := .next (cmdSetBypass p s)

/-- Meaning of CMD_RESET_COUNTERS (R273). -/
def execCmdResetCounters (s : State) : Host.Outcome State Fault Refusal := .next (cmdResetCounters s)

/-- Meaning of CMD_STOP (R274). -/
def execCmdStop (s : State) : Host.Outcome State Fault Refusal := .next (cmdStop s)

/-- Meaning of CMD_ILLEGAL (R276). -/
def execCmdIllegal (w : Byte) (s : State) : Host.Outcome State Fault Refusal := .next (cmdIllegal w s)

/-- Meaning of SRC_TRANSPORT_ERROR (R275). -/
def execSrcTransportError (s : State) : Host.Outcome State Fault Refusal := .next (srcTransportError s)

end Sys2Proof.Machine
end

