-- ==== Sys2Proof/Machine/Binary64.lean ====
section
/-! DEFINITION. IEEE-754 binary64 arithmetic, round to nearest, ties to even (43_telemetry.md R197, D15), on 64-bit patterns
(30_encoding.md R81). Every finite binary64 number is a whole multiple of 2^-1074, so magnitudes are natural numbers of that unit
and every exact result is a quotient of naturals, rounded once by `f64Round`. -/

namespace Sys2Proof.Machine

/-- Bit 63, the sign (R81). -/
def f64Sign (x : F64) : Bool := x.msb

/-- Bits 62:52, the biased exponent (R81). -/
def f64Exp (x : F64) : Nat := x.toNat / 2 ^ 52 % 2048

/-- Bits 51:0, the fraction (R81). -/
def f64Frac (x : F64) : Nat := x.toNat % 2 ^ 52

/-- A NaN: exponent all ones, fraction not zero. -/
def f64IsNan (x : F64) : Bool := f64Exp x == 2047 && f64Frac x != 0

/-- An infinity: exponent all ones, fraction zero. -/
def f64IsInf (x : F64) : Bool := f64Exp x == 2047 && f64Frac x == 0

/-- Neither NaN nor infinite. -/
def f64IsFinite (x : F64) : Bool := f64Exp x != 2047

/-- The magnitude of a finite number, in units of 2^-1074. -/
def f64Mag (x : F64) : Nat :=
  if f64Exp x = 0 then f64Frac x else (2 ^ 52 + f64Frac x) * 2 ^ (f64Exp x - 1)

/-- The value of a finite number, in units of 2^-1074. -/
def f64Units (x : F64) : Int :=
  if f64Sign x then - (f64Mag x : Int) else (f64Mag x : Int)

/-- n / d to the nearest natural number, ties to even. -/
def roundHalfEven (n d : Nat) : Nat :=
  if 2 * (n % d) < d then n / d
  else if d < 2 * (n % d) then n / d + 1
  else n / d + n / d % 2

/-- The binary64 number nearest to ±n/d units, ties to even; past the largest finite number, an infinity. With `k` the power of
two of the last place kept, the pattern of r·2^k units is k·2^52 + r, also where rounding carries r to 2^53. -/
def f64Round (neg : Bool) (n d : Nat) : F64 :=
  let k := Nat.log2 (n / d) - 52
  let bits := min (k * 2 ^ 52 + roundHalfEven n (d * 2 ^ k)) (2047 * 2 ^ 52)
  BitVec.ofNat 64 (if neg then 2 ^ 63 + bits else bits)

/-- Negation flips the sign bit (R200). -/
def f64Neg (x : F64) : F64 := x ^^^ 0x8000000000000000#64

/-- fl(x + y). An exact sum of zero is +0.0 unless both operands are -0.0 (TV-D-TEL-4, log entry 13). -/
def f64Add (x y : F64) : F64 :=
  if f64IsNan x then x
  else if f64IsNan y then y
  else if f64IsInf x then (if f64IsInf y && f64Sign x != f64Sign y then Config.f64Nan else x)
  else if f64IsInf y then y
  else if f64Units x + f64Units y = 0 then
    (if f64Sign x && f64Sign y then 0x8000000000000000#64 else 0)
  else f64Round (f64Units x + f64Units y < 0) (f64Units x + f64Units y).natAbs 1

/-- fl(x - y). -/
def f64Sub (x y : F64) : F64 := f64Add x (f64Neg y)

/-- fl(x / d), d a positive whole number; a NaN or an infinity stays. -/
def f64DivNat (x : F64) (d : Nat) : F64 :=
  if f64IsFinite x then f64Round (f64Sign x) (f64Mag x) d else x

/-- fl(m · x), m a positive whole number; a NaN or an infinity stays. -/
def f64MulNat (m : Nat) (x : F64) : F64 :=
  if f64IsFinite x then f64Round (f64Sign x) (f64Mag x * m) 1 else x

/-- floor(x), exact; the sign of a zero stays (TV-D-TEL-4). -/
def f64Floor (x : F64) : F64 :=
  if f64IsFinite x then
    if f64Mag x % 2 ^ 1074 = 0 then x
    else if f64Sign x then f64Round true ((f64Mag x / 2 ^ 1074 + 1) * 2 ^ 1074) 1
    else f64Round false (f64Mag x / 2 ^ 1074 * 2 ^ 1074) 1
  else x

end Sys2Proof.Machine
end

