-- ==== Sys2Proof/Machine/Lut.lean ====
section
/-! DEFINITION. The field descriptor table (43_telemetry.md R188, 30_encoding.md R71, R91): every telemetry field's offset, class,
divisor and fail rule. OPEN entries are the opaque constants of Config. -/

namespace Sys2Proof.Machine

/-- The name of a telemetry field (R188, column id). -/
inductive FieldId where
  | sec | min | hour | day | month
  | iou (i : Nat)
  | rgbwR | rgbwG | rgbwB | rgbwW
  | ir
  | inert (j : Nat)
  | pduStatus (k : Nat)
  | pduValue (k : Nat)
  | pmu (i : Nat)
  | gpsHH | gpsMM | gpsSS | gpsHS
  | lat | latHemi | lon | lonHemi
deriving DecidableEq, Repr

/-- The class of a field (R71): U, I with its divisor and fail rule, E, D, A. -/
inductive FieldClass where
  | unsigned
  | signed16 (scale : Scale) (fail : Bool)
  | status
  | binary64
  | ascii
deriving DecidableEq, Repr

/-- A row of the table (R91). -/
structure FieldRow where
  id : FieldId
  off : Nat
  cls : FieldClass
deriving DecidableEq, Repr

/-- The width in bytes (R91, column w). -/
def FieldRow.width (r : FieldRow) : Nat :=
  match r.cls with
  | .unsigned => 1
  | .signed16 _ _ => 2
  | .status => 1
  | .binary64 => 8
  | .ascii => 1

/-- A row of class I, what `field` of R182 takes. -/
structure Int16Row where
  id : FieldId
  off : Nat
  scale : Scale
  fail : Bool
deriving DecidableEq, Repr

/-- A class I row as a row of the table. -/
def Int16Row.toRow (r : Int16Row) : FieldRow := ⟨r.id, r.off, .signed16 r.scale r.fail⟩

/-- IOU[i] (R188, R190): slot 0 is a temperature with divisor 10; the rest is OPEN (D31). -/
def iouRow (i : Nat) : Int16Row where
  id := .iou i
  off := 9 + 2 * i
  scale := if i = 0 then .ten else Config.iouScale i
  fail := if i = 0 then true else Config.iouFail i

/-- INERT[j] (R188, R192): aX, aY, aZ, gX, gY, gZ, Press; the divisors are OPEN (D34). -/
def inertRow (j : Nat) : Int16Row where
  id := .inert j
  off := 44 + 2 * j
  scale := Config.inertScale j
  fail := true

/-- PDU[k].value (R188, R193); the divisors are OPEN (D33). -/
def pduValueRow (k : Nat) : Int16Row where
  id := .pduValue k
  off := 59 + 3 * k
  scale := Config.pduScale k
  fail := false

/-- PMU[i] (R188, R194): NTC0..NTC3 have divisor 100 and the FAIL marker; the other divisors are OPEN (D32). -/
def pmuRow (i : Nat) : Int16Row where
  id := .pmu i
  off := 112 + 2 * i
  scale := if i < 4 then .hundred else Config.pmuScale i
  fail := decide (i < 4)

/-- The 15 IOU slots. -/
def iouRows : List Int16Row := (List.range 15).map iouRow

/-- The 7 inertial fields. -/
def inertRows : List Int16Row := (List.range 7).map inertRow

/-- The 18 PDU values. -/
def pduValueRows : List Int16Row := (List.range 18).map pduValueRow

/-- The 12 PMU fields. -/
def pmuRows : List Int16Row := (List.range 12).map pmuRow

/-- The offset of PDU[k].status (R188, R193). -/
def pduStatusOff (k : Nat) : Nat := 58 + 3 * k

/-- The offsets of the 18 PDU status bytes. -/
def pduStatusOffs : List Nat := (List.range 18).map pduStatusOff

/-- The field descriptor table, one row per telemetry field (R188). -/
def lut : List FieldRow :=
  [⟨.sec, 3, .unsigned⟩, ⟨.min, 4, .unsigned⟩, ⟨.hour, 5, .unsigned⟩, ⟨.day, 6, .unsigned⟩, ⟨.month, 7, .unsigned⟩]
  ++ iouRows.map Int16Row.toRow
  ++ [⟨.rgbwR, 39, .unsigned⟩, ⟨.rgbwG, 40, .unsigned⟩, ⟨.rgbwB, 41, .unsigned⟩, ⟨.rgbwW, 42, .unsigned⟩, ⟨.ir, 43, .unsigned⟩]
  ++ inertRows.map Int16Row.toRow
  ++ (List.range 18).map (fun k => ⟨.pduStatus k, pduStatusOff k, .status⟩)
  ++ pduValueRows.map Int16Row.toRow
  ++ pmuRows.map Int16Row.toRow
  ++ [⟨.gpsHH, 137, .unsigned⟩, ⟨.gpsMM, 138, .unsigned⟩, ⟨.gpsSS, 139, .unsigned⟩, ⟨.gpsHS, 140, .unsigned⟩,
      ⟨.lat, 141, .binary64⟩, ⟨.latHemi, 149, .ascii⟩, ⟨.lon, 150, .binary64⟩, ⟨.lonHemi, 158, .ascii⟩]

/-- The n-th order of a list, n taken digit by digit: the first element by n modulo the length. -/
def nthOrder : Nat → Nat → List PmuQuantity → List PmuQuantity
  | 0, _, _ => []
  | fuel + 1, n, l =>
    match l[n % l.length]? with
    | none => []
    | some q => q :: nthOrder fuel (n / l.length) (l.eraseIdx (n % l.length))

/-- PMU_ORDER_8_11 (D32, I13): what PMU[8], PMU[9], PMU[10], PMU[11] measure; naming only, OPEN. Log entry 4. -/
def pmuOrder : List PmuQuantity :=
  nthOrder 4 (Config.pmuOrderIndex % 24) [.inputVoltage, .inputCurrent, .outputVoltage, .outputCurrent]

end Sys2Proof.Machine
end

