-- ==== Sys2Proof/Machine/Operands.lean ====
section
/-! DEFINITION. Every operand form: the big-endian words, readings, coordinates and the reads of a telemetry frame (00_scope.md
R12; 30_encoding.md R79 to R81; 43_telemetry.md R182 to R201). A read past the end of the buffer gives nothing (R51). -/

namespace Sys2Proof.Machine

/-- `u16be(s, o)` (R12, R80): the byte at the lower offset is the most significant (R52). -/
def u16be (m : Memory) (o : Nat) : Option Word16 :=
  match memByte m o, memByte m (o + 1) with
  | some h, some l => some (h ++ l)
  | _, _ => none

/-- `s16be(s, o)` (R12, R79, R183): two's complement. -/
def s16be (m : Memory) (o : Nat) : Option Int :=
  match u16be m o with
  | some v => some v.toInt
  | none => none

/-- A byte sequence as one big-endian number (R12). -/
def beNat (bs : List Byte) : Nat := bs.foldl (fun n b => n * 256 + b.toNat) 0

/-- `f64be(s, o)` (R12, R81): eight bytes, big-endian (R53, D14). Log entry 5. -/
def f64be (m : Memory) (o : Nat) : Option F64 :=
  match memRead m o 8 with
  | some bs => some (BitVec.ofNat 64 (beNat bs))
  | none => none

/-- The FAIL test and the divisor of a raw value (R182, R184, R185). -/
def readingOf (scale : Scale) (fail : Bool) (v : Int) : Reading :=
  if fail ∧ (v = failLo ∨ v = failHi) then .fail else .val v scale

/-- `field(FB, f)` for a row of class I (R182). -/
def field (m : Memory) (f : Int16Row) : Option Reading :=
  match s16be m f.off with
  | some v => some (readingOf f.scale f.fail v)
  | none => none

/-- The divisor as a number (R185). -/
def scaleDivisor : Scale → Nat
  | .one => 1
  | .ten => 10
  | .hundred => 100

/-- The exact value of a reading, v / s; FAIL carries no number (R184, R185). -/
def readingValue : Reading → Option Rat
  | .fail => none
  | .val v s => some ((v : Rat) / (scaleDivisor s : Rat))

/-- Negating a coordinate flips the sign bit (R200); NONFINITE carries no sign (R197, R201). -/
def negCoord : Coord → Coord
  | .nonfinite => .nonfinite
  | .finite x => .finite (f64Neg x)

/-- The degrees of `coord` (R197): floor(fl(v / 100)). -/
def coordDegrees (v : F64) : F64 := f64Floor (f64DivNat v 100)

/-- The minutes of `coord` (R197): fl(v - fl(100 deg)). -/
def coordMinutes (v : F64) : F64 := f64Sub v (f64MulNat 100 (coordDegrees v))

/-- `coord(v, h, neg)` (R197) up to the hemisphere: fl(deg + fl(m / 60)), NONFINITE where v is NaN or infinite (R201). -/
def convertCoord (v : F64) : Coord :=
  if f64IsFinite v then .finite (f64Add (coordDegrees v) (f64DivNat (coordMinutes v) 60)) else .nonfinite

/-- What a telemetry frame's own fields read as, the status bytes still raw (R181). -/
structure FieldReads where
  time : TimeFields
  iou : List Reading
  rgbw : List Byte
  ir : Byte
  inert : List Reading
  statusBytes : List Byte
  pduValues : List Reading
  pmu : List Reading
deriving DecidableEq, Repr

/-- What the GPS block reads as, the coordinates not converted yet (R196). -/
structure GpsReads where
  hh : Byte
  mm : Byte
  ss : Byte
  hs : Byte
  lat : F64
  latHemi : Byte
  lon : F64
  lonHemi : Byte
deriving DecidableEq, Repr

/-- `time_fields(FB)` (R189), raw bytes. -/
def readTime (m : Memory) : Option TimeFields := do
  let sec ← memByte m 3
  let min ← memByte m 4
  let hour ← memByte m 5
  let day ← memByte m 6
  let month ← memByte m 7
  return ⟨sec, min, hour, day, month⟩

/-- Every field of R181 but the GPS block, in its order (R189 to R194). -/
def readFields (m : Memory) : Option FieldReads := do
  let time ← readTime m
  let iou ← iouRows.mapM (field m)
  let rgbw ← memRead m 39 4
  let ir ← memByte m 43
  let inert ← inertRows.mapM (field m)
  let statusBytes ← pduStatusOffs.mapM (memByte m)
  let pduValues ← pduValueRows.mapM (field m)
  let pmu ← pmuRows.mapM (field m)
  return ⟨time, iou, rgbw, ir, inert, statusBytes, pduValues, pmu⟩

/-- The GPS block (R196): raw time bytes, two binary64 values with their hemisphere bytes. -/
def readGps (m : Memory) : Option GpsReads := do
  let hh ← memByte m 137
  let mm ← memByte m 138
  let ss ← memByte m 139
  let hs ← memByte m 140
  let lat ← f64be m 141
  let latHemi ← memByte m 149
  let lon ← f64be m 150
  let lonHemi ← memByte m 158
  return ⟨hh, mm, ss, hs, lat, latHemi, lon, lonHemi⟩

end Sys2Proof.Machine
end

