-- ==== Sys2Proof/Machine/Crc.lean ====
section
/-! DEFINITION. The CRC-16 validator (41_crc.md). -/

namespace Sys2Proof.Machine

/-- One of the eight rounds of R121: shift left, and XOR with the polynomial where the top bit was set. -/
def crcRound (r : Word16) : Word16 :=
  if r.msb then (r <<< 1) ^^^ crcPoly else r <<< 1

/-- `crc_byte(r, b)` (R121): the byte into the high half, then eight rounds. -/
def crcByte (r : Word16) (b : Byte) : Word16 :=
  Nat.repeat crcRound 8 (r ^^^ (b.setWidth 16 <<< 8))

/-- `crc16(s)` (R120): initial value 0, most significant bit first, no reflection, no final exclusive-or. -/
def crc16 (s : List Byte) : Word16 := s.foldl crcByte crcInit

/-- `crc_ok(FB)` (R124): the checksum over offsets 2..279 (R122) equals the word at 280 (R123). A buffer too short for these
reads has no valid checksum; the framer asks only of 284 bytes. -/
def crcOk (fb : Memory) : Bool :=
  match memRead fb crcLo crcLen, u16be fb cksumOff with
  | some s, some ck => crc16 s == ck
  | _, _ => false

/-- The error of a candidate frame of the right length (R124): none, or ChecksumInvalid. -/
def checksumError (fb : Memory) : Option FrameError :=
  if crcOk fb then none else some .checksumInvalid

end Sys2Proof.Machine
end

