-- ==== Sys2Proof/Machine/Destuffer.lean ====
section
/-! DEFINITION. The byte de-stuffer (40_destuffer.md): one meaning per token, and the scan of a raw mode-RF frame. -/

namespace Sys2Proof.Machine

/-- DS_LIT (R101): `d <- d ++ [b]; i <- i + 1`. -/
def dsLit (b : Byte) (s : State) : State := destuffed b 1 s

/-- DS_ESC_CA (R102): `d <- d ++ [0xCA]; i <- i + 2`. -/
def dsEscCA (s : State) : State := destuffed 0xCA 2 s

/-- DS_ESC_EF (R103): `d <- d ++ [0xEF]; i <- i + 2`. -/
def dsEscEF (s : State) : State := destuffed 0xEF 2 s

/-- DS_ESC_BD (R104): `d <- d ++ [0xBD]; i <- i + 2`. -/
def dsEscBD (s : State) : State := destuffed 0xBD 2 s

/-- DS_ESC_BAD (R105): `return Ambiguous`. -/
def dsEscBad (_code : Byte) (s : State) : State := ambiguous s

/-- DS_ESC_TRUNC (R106): `return Ambiguous`. -/
def dsEscTrunc (s : State) : State := ambiguous s

/-- The algorithm of R107 from the current scan index on: each turn takes one token of R101 to R106; an undefined pair ends it. -/
def destuffScan : List Byte → State → State
  | [], s => s
  | b :: rest, s =>
    if b = escByte then
      match rest with
      | [] => dsEscTrunc s
      | c :: rest' =>
        if c = escCodeCA then destuffScan rest' (dsEscCA s)
        else if c = escCodeEF then destuffScan rest' (dsEscEF s)
        else if c = escCodeBD then destuffScan rest' (dsEscBD s)
        else dsEscBad c s
    else destuffScan rest (dsLit b s)

/-- `destuff(r)` (R100, R107) on the de-stuffer's registers, which a call starts empty: it is stateless per call. -/
def destuffFrame (r : List Byte) (s : State) : State := destuffScan r (clearDestuffer s)

/-- Meaning of DS_LIT (R101). -/
def execDsLit (b : Byte) (s : State) : Host.Outcome State Fault Refusal := .next (dsLit b s)

/-- Meaning of DS_ESC_CA (R102). -/
def execDsEscCA (s : State) : Host.Outcome State Fault Refusal := .next (dsEscCA s)

/-- Meaning of DS_ESC_EF (R103). -/
def execDsEscEF (s : State) : Host.Outcome State Fault Refusal := .next (dsEscEF s)

/-- Meaning of DS_ESC_BD (R104). -/
def execDsEscBD (s : State) : Host.Outcome State Fault Refusal := .next (dsEscBD s)

/-- Meaning of DS_ESC_BAD (R105). -/
def execDsEscBad (code : Byte) (s : State) : Host.Outcome State Fault Refusal := .next (dsEscBad code s)

/-- Meaning of DS_ESC_TRUNC (R106). -/
def execDsEscTrunc (s : State) : Host.Outcome State Fault Refusal := .next (dsEscTrunc s)

end Sys2Proof.Machine
end

