-- ==== Sys2Proof/Machine/Image.lean ====
section
/-! DEFINITION. The image reassembler (44_image.md). -/

namespace Sys2Proof.Machine

/-- Opening (R234): before the append, where no assembly is open or the sequence index is 0x00. -/
def openIfNeeded (seq : Byte) (s : State) : State :=
  if s.imgOpen = false ∨ seq = imgFirst then openAssembly s else s

/-- Closing (R236), tested after the append. -/
def deliverIfComplete (seq : Byte) (s : State) : State :=
  if seq = imgLast ∨ s.imgCount = imgMaxChunks then deliverImage s else s

/-- `image_chunk(FB)` (R230) for a sequence index: open, append the slice of offsets 3..280 (R235), close; then FB is destroyed
(R35). A frame too short for the slice sets the refused mark (R51, R276, log entry 11). -/
def imageChunk (seq : Byte) (s : State) : State :=
  match memRead s.fb imgLo imgLen with
  | none => refuse s
  | some slice => consumeFrame (deliverIfComplete seq (appendChunk slice (openIfNeeded seq s)))

/-- FT_IMG_FIRST (R231). -/
def ftImgFirst (s : State) : State := imageChunk 0x00 s

/-- FT_IMG_LAST (R232). -/
def ftImgLast (s : State) : State := imageChunk 0x1A s

/-- FT_IMG_MID (R233). -/
def ftImgMid (tag : Byte) (s : State) : State := imageChunk tag s

/-- Meaning of FT_IMG_FIRST (R231). -/
def execFtImgFirst (s : State) : Host.Outcome State Fault Refusal := .next (ftImgFirst s)

/-- Meaning of FT_IMG_LAST (R232). -/
def execFtImgLast (s : State) : Host.Outcome State Fault Refusal := .next (ftImgLast s)

/-- Meaning of FT_IMG_MID (R233). -/
def execFtImgMid (tag : Byte) (s : State) : Host.Outcome State Fault Refusal := .next (ftImgMid tag s)

end Sys2Proof.Machine
end

