-- ==== Sys2Proof/Machine/Telemetry.lean ====
section
/-! DEFINITION. The telemetry decoder (43_telemetry.md): the status and hemisphere tokens, and FT_TELEMETRY. -/

namespace Sys2Proof.Machine

/-! ### Status bytes (R187) -/

/-- STAT_OFF: raw 0. -/
def statOff (s : State) : State := pushStatus .off s

/-- STAT_READY: raw 1. -/
def statReady (s : State) : State := pushStatus .ready s

/-- STAT_OVER_VOLTAGE: raw 2. -/
def statOverVoltage (s : State) : State := pushStatus .overVoltage s

/-- STAT_OVER_CURRENT: raw 3. -/
def statOverCurrent (s : State) : State := pushStatus .overCurrent s

/-- STAT_ON: raw 4. -/
def statOn (s : State) : State := pushStatus .on s

/-- STAT_UNKNOWN: raw 5..255, kept (D20). -/
def statUnknown (x : Byte) (s : State) : State := pushStatus (.unknown x) s

/-- `status(x)` (R187): the token of a status byte takes its effect. -/
def statusByte (x : Byte) (s : State) : State :=
  if x = 0 then statOff s
  else if x = 1 then statReady s
  else if x = 2 then statOverVoltage s
  else if x = 3 then statOverCurrent s
  else if x = 4 then statOn s
  else statUnknown x s

/-- The 18 status bytes, rail 0 first (R181, R193). -/
def statusBytes : List Byte → State → State
  | [], s => s
  | x :: rest, s => statusBytes rest (statusByte x s)

/-! ### Hemisphere bytes (R200) -/

/-- HEMI_LAT_S: the latitude under conversion is negated. -/
def hemiLatS (s : State) : State := { s with latitude := negCoord s.latitude }

/-- HEMI_LON_W: the longitude under conversion is negated. -/
def hemiLonW (s : State) : State := { s with longitude := negCoord s.longitude }

/-- HEMI_OTHER: the sign is unchanged. -/
def hemiOther (_c : Coordinate) (_h : Byte) (s : State) : State := s

/-- The latitude's hemisphere byte, FB[149]. -/
def latHemisphere (h : Byte) (s : State) : State :=
  if h = asciiS then hemiLatS s else hemiOther .latitude h s

/-- The longitude's hemisphere byte, FB[158]. -/
def lonHemisphere (h : Byte) (s : State) : State :=
  if h = asciiW then hemiLonW s else hemiOther .longitude h s

/-- Both coordinates of R196: the conversion of R197, then the hemisphere byte. -/
def convertCoordinates (g : GpsReads) (s : State) : State :=
  lonHemisphere g.lonHemi (latHemisphere g.latHemi
    { s with latitude := convertCoord g.lat, longitude := convertCoord g.lon })

/-! ### FT_TELEMETRY (R181) -/

/-- The record of R181 and R203: each PDU pair is a rail's status and its value, not gated by the status (R193). -/
def recordOf (f : FieldReads) (statuses : List Status) : TelemetryRecord where
  time := f.time
  iou := f.iou
  rgbw := f.rgbw
  ir := f.ir
  inert := f.inert
  pdu := statuses.zip f.pduValues
  pmu := f.pmu

/-- The fix of R196. -/
def fixOf (g : GpsReads) (lat lon : Coord) : GpsFix where
  hh := g.hh
  mm := g.mm
  ss := g.ss
  hs := g.hs
  lat := lat
  lon := lon

/-- The one TELEMETRY event (R202); the record leaves the decoder and FB is destroyed (R35). -/
def deliverTelemetry (f : FieldReads) (g : Option GpsReads) (s : State) : State :=
  consumeFrame (clearExtractor
    (emit (.telemetry (recordOf f s.pduStatuses) (g.map fun r => fixOf r s.latitude s.longitude)) s))

/-- FT_TELEMETRY (R181): every field, the 18 statuses, the GPS fix where the frame has at least 160 bytes (R195), one event. A
frame too short for a read sets the refused mark (R51, R276, log entry 11). -/
def ftTelemetry (s : State) : State :=
  match readFields s.fb with
  | none => refuse s
  | some f =>
    if gpsMinLen ≤ s.fb.length then
      match readGps s.fb with
      | none => refuse s
      | some g => deliverTelemetry f (some g) (convertCoordinates g (statusBytes f.statusBytes (clearExtractor s)))
    else deliverTelemetry f none (statusBytes f.statusBytes (clearExtractor s))

/-- Meaning of FT_TELEMETRY (R181). -/
def execFtTelemetry (s : State) : Host.Outcome State Fault Refusal := .next (ftTelemetry s)

/-- Meaning of STAT_OFF (R187). -/
def execStatOff (s : State) : Host.Outcome State Fault Refusal := .next (statOff s)

/-- Meaning of STAT_READY (R187). -/
def execStatReady (s : State) : Host.Outcome State Fault Refusal := .next (statReady s)

/-- Meaning of STAT_OVER_VOLTAGE (R187). -/
def execStatOverVoltage (s : State) : Host.Outcome State Fault Refusal := .next (statOverVoltage s)

/-- Meaning of STAT_OVER_CURRENT (R187). -/
def execStatOverCurrent (s : State) : Host.Outcome State Fault Refusal := .next (statOverCurrent s)

/-- Meaning of STAT_ON (R187). -/
def execStatOn (s : State) : Host.Outcome State Fault Refusal := .next (statOn s)

/-- Meaning of STAT_UNKNOWN (R187). -/
def execStatUnknown (x : Byte) (s : State) : Host.Outcome State Fault Refusal := .next (statUnknown x s)

/-- Meaning of HEMI_LAT_S (R200). -/
def execHemiLatS (s : State) : Host.Outcome State Fault Refusal := .next (hemiLatS s)

/-- Meaning of HEMI_LON_W (R200). -/
def execHemiLonW (s : State) : Host.Outcome State Fault Refusal := .next (hemiLonW s)

/-- Meaning of HEMI_OTHER (R200). -/
def execHemiOther (c : Coordinate) (h : Byte) (s : State) : Host.Outcome State Fault Refusal := .next (hemiOther c h s)

end Sys2Proof.Machine
end

