-- ==== Sys2Proof/Machine/Framer.lean ====
section
/-! DEFINITION. The framer (42_framer.md): mode RF, mode RS422, raw bypass, and the completion of a candidate frame. -/

namespace Sys2Proof.Machine

/-- The tag's token takes its effect on the frame in FB (R76, R180). -/
def tagByte (t : Byte) (s : State) : State :=
  if t = tagTelemetry then ftTelemetry s
  else if t = imgFirst then ftImgFirst s
  else if t = imgLast then ftImgLast s
  else ftImgMid t s

/-- `classify_frame(FB)` (R180). An empty FB sets the refused mark (R51, R276, log entry 11). -/
def classifyFrame (s : State) : State :=
  match memByte s.fb tagOff with
  | none => refuse s
  | some t => tagByte t s

/-- `finish_frame(outcome, FB)` (R148): the outcome is counted and emitted, and only an Ok frame enters FB and is classified
(R149). -/
def finishFrame (o : FrameOutcome) (fb : Memory) (s : State) : State :=
  if o = .ok then classifyFrame (loadFrame fb (reportOutcome o s)) else reportOutcome o s

/-- `classify_rf(r, over)` (R144) after the de-stuffer has run on r: overflow, ambiguity, length, checksum, in this order (R305). -/
def rfError (overflow ambig : Bool) (d : Memory) : Option FrameError :=
  if overflow then some .lengthInvalid
  else if ambig then some .decodeAmbiguity
  else if d.length = frameLen then checksumError d
  else some .lengthInvalid

/-- The end of a mode-RF candidate frame r (R142, R144, R148): the de-stuffer runs once on the whole frame (R108) unless the body
overflowed (R145), its registers are cleared, and the frame is finished. -/
def completeRf (r : List Byte) (overflow : Bool) (s : State) : State :=
  let s' := if overflow then s else destuffFrame r s
  finishFrame (reportedOutcome (rfError overflow s'.dsAmbiguous s'.dsOut)) s'.dsOut (clearDestuffer s')

/-- The end of a mode-RS422 candidate frame (R146, R147): the sentinels are added, nothing is de-stuffed. -/
def completeRs (raw : List Byte) (s : State) : State :=
  finishFrame (reportedOutcome (checksumError ([sentStart] ++ raw ++ [sentEnd]))) ([sentStart] ++ raw ++ [sentEnd]) s

/-- RF_START (R141): a new accumulation, whatever was buffered is dropped without an outcome. -/
def rfStart (s : State) : State := beginFrame s

/-- RF_END (R142): outside a frame nothing happens (D6); inside, the framer is cleared and the frame completed. -/
def rfEnd (s : State) : State :=
  if s.inside then completeRf (memAppend s.acc [sentEnd]) s.accOver (clearFramer s) else s

/-- RF_DATA (R143, R145): dropped outside a frame; inside, appended up to RF_BODY_CAP body bytes. -/
def rfData (b : Byte) (s : State) : State :=
  if s.inside then
    if s.acc.length - 1 < rfBodyCap then appendAcc b s else markOver s
  else s

/-- RS_DATA (R146): the 282nd byte completes the frame in the same step. -/
def rsData (b : Byte) (s : State) : State :=
  if (appendAcc b s).acc.length = rs422Body then completeRs (appendAcc b s).acc (clearFramer s)
  else appendAcc b s

/-- RAW_BYPASS (R150, R257): the byte, unchanged, and nothing else. -/
def rawBypass (b : Byte) (s : State) : State := emit (.raw b) s

/-- Meaning of RF_START (R141). -/
def execRfStart (s : State) : Host.Outcome State Fault Refusal := .next (rfStart s)

/-- Meaning of RF_END (R142). -/
def execRfEnd (s : State) : Host.Outcome State Fault Refusal := .next (rfEnd s)

/-- Meaning of RF_DATA (R143). -/
def execRfData (b : Byte) (s : State) : Host.Outcome State Fault Refusal := .next (rfData b s)

/-- Meaning of RS_DATA (R146). -/
def execRsData (b : Byte) (s : State) : Host.Outcome State Fault Refusal := .next (rsData b s)

/-- Meaning of RAW_BYPASS (R150). -/
def execRawBypass (b : Byte) (s : State) : Host.Outcome State Fault Refusal := .next (rawBypass b s)

end Sys2Proof.Machine
end

