-- ==== Sys2Proof/Machine/Dispatch.lean ====
section
/-! DEFINITION. The meaning of every token of spec/opcode_table.json, one arm per constructor of Instr. -/

namespace Sys2Proof.Machine

def exec (i : Instr) (s : State) : Host.Outcome State Fault Refusal :=
  match i with
  | .rfStart => Sys2Proof.Machine.execRfStart s
  | .rfEnd => Sys2Proof.Machine.execRfEnd s
  | .rfData b => Sys2Proof.Machine.execRfData b s
  | .rsData b => Sys2Proof.Machine.execRsData b s
  | .rawBypass b => Sys2Proof.Machine.execRawBypass b s
  | .dsLit b => Sys2Proof.Machine.execDsLit b s
  | .dsEscCA => Sys2Proof.Machine.execDsEscCA s
  | .dsEscEF => Sys2Proof.Machine.execDsEscEF s
  | .dsEscBD => Sys2Proof.Machine.execDsEscBD s
  | .dsEscBad code => Sys2Proof.Machine.execDsEscBad code s
  | .dsEscTrunc => Sys2Proof.Machine.execDsEscTrunc s
  | .ftTelemetry => Sys2Proof.Machine.execFtTelemetry s
  | .ftImgFirst => Sys2Proof.Machine.execFtImgFirst s
  | .ftImgLast => Sys2Proof.Machine.execFtImgLast s
  | .ftImgMid tag => Sys2Proof.Machine.execFtImgMid tag s
  | .statOff => Sys2Proof.Machine.execStatOff s
  | .statReady => Sys2Proof.Machine.execStatReady s
  | .statOverVoltage => Sys2Proof.Machine.execStatOverVoltage s
  | .statOverCurrent => Sys2Proof.Machine.execStatOverCurrent s
  | .statOn => Sys2Proof.Machine.execStatOn s
  | .statUnknown x => Sys2Proof.Machine.execStatUnknown x s
  | .hemiLatS => Sys2Proof.Machine.execHemiLatS s
  | .hemiLonW => Sys2Proof.Machine.execHemiLonW s
  | .hemiOther c h => Sys2Proof.Machine.execHemiOther c h s
  | .cmdSetMode m => Sys2Proof.Machine.execCmdSetMode m s
  | .cmdSetBypass p => Sys2Proof.Machine.execCmdSetBypass p s
  | .cmdResetCounters => Sys2Proof.Machine.execCmdResetCounters s
  | .cmdStop => Sys2Proof.Machine.execCmdStop s
  | .cmdIllegal w => Sys2Proof.Machine.execCmdIllegal w s
  | .srcTransportError => Sys2Proof.Machine.execSrcTransportError s

end Sys2Proof.Machine
end

