-- ==== Sys2Proof/WellFormed.lean ====
section
/-! DEFINITION. Well-formed tokens: the operand of a catch-all row is a value that no row of the same context with a larger mask
matches (30_encoding.md R87). -/

namespace Sys2Proof

open Sys2Proof.Machine

/-- The command words that spell a command (R82); every other word is illegal (R84). -/
def legalCommandWords : List Byte := [0x10, 0x11, 0x20, 0x21, 0x30, 0x40]

/-- The operand values of each row, after the rows with a larger mask (R87). -/
def Instr.wellFormed : Instr → Bool
  | .rfStart => true
  | .rfEnd => true
  | .rfData b => b != sentStart && b != sentEnd
  | .rsData _ => true
  | .rawBypass _ => true
  | .dsLit b => b != escByte
  | .dsEscCA => true
  | .dsEscEF => true
  | .dsEscBD => true
  | .dsEscBad c => c != escCodeCA && c != escCodeEF && c != escCodeBD
  | .dsEscTrunc => true
  | .ftTelemetry => true
  | .ftImgFirst => true
  | .ftImgLast => true
  | .ftImgMid t => t != tagTelemetry && t != imgFirst && t != imgLast
  | .statOff => true
  | .statReady => true
  | .statOverVoltage => true
  | .statOverCurrent => true
  | .statOn => true
  | .statUnknown x => 5 ≤ x.toNat
  | .hemiLatS => true
  | .hemiLonW => true
  | .hemiOther .latitude h => h != asciiS
  | .hemiOther .longitude h => h != asciiW
  | .cmdSetMode _ => true
  | .cmdSetBypass _ => true
  | .cmdResetCounters => true
  | .cmdStop => true
  | .cmdIllegal w => !legalCommandWords.contains w
  | .srcTransportError => true

end Sys2Proof
end

