-- ==== Sys2Proof/Decode.lean ====
section
/-! DEFINITION. Decoding of every token by its context, total on any bytes and rejecting by name (30_encoding.md R70 to R88), and
the encoder written from the same tables. -/

namespace Sys2Proof

open Sys2Proof.Machine

/-- Why no token is read: the context's token needs a byte and there is none. -/
inductive DecodeError where
  | noByte (c : TokenContext)
deriving DecidableEq, Repr

/-- A stream byte in mode RF, bypass FRAMED (R87, R140). -/
def decodeRf (b : Byte) : Instr :=
  if b = sentStart then .rfStart else if b = sentEnd then .rfEnd else .rfData b

/-- The coded byte of an escape pair (R74). -/
def decodeEscape (c : Byte) : Instr :=
  if c = escCodeCA then .dsEscCA
  else if c = escCodeEF then .dsEscEF
  else if c = escCodeBD then .dsEscBD
  else .dsEscBad c

/-- The first token of the de-stuffer's input and the bytes after it (R73, R74, R87); nothing where the input is empty. -/
def decodeDestuff : List Byte → Option (Instr × List Byte)
  | [] => none
  | b :: rest =>
    if b = escByte then
      match rest with
      | [] => some (.dsEscTrunc, [])
      | c :: rest' => some (decodeEscape c, rest')
    else some (.dsLit b, rest)

/-- The type tag FB[2] of an Ok frame (R76). -/
def decodeTag (t : Byte) : Instr :=
  if t = tagTelemetry then .ftTelemetry
  else if t = imgFirst then .ftImgFirst
  else if t = imgLast then .ftImgLast
  else .ftImgMid t

/-- A PDU status byte (R77). -/
def decodeStatus (x : Byte) : Instr :=
  if x = 0 then .statOff
  else if x = 1 then .statReady
  else if x = 2 then .statOverVoltage
  else if x = 3 then .statOverCurrent
  else if x = 4 then .statOn
  else .statUnknown x

/-- A hemisphere byte of a coordinate (R78). -/
def decodeHemisphere (c : Coordinate) (h : Byte) : Instr :=
  match c with
  | .latitude => if h = asciiS then .hemiLatS else .hemiOther .latitude h
  | .longitude => if h = asciiW then .hemiLonW else .hemiOther .longitude h

/-- A host command word: bits 7:4 the opcode, bits 3:1 required to be 000, bit 0 the argument A (R82, R84). -/
def decodeCommand (w : Byte) : Instr :=
  if w.extractLsb' 1 3 = 0 then
    if w.extractLsb' 4 4 = 1 then .cmdSetMode (if w.extractLsb' 0 1 = 0 then .rf else .rs422)
    else if w.extractLsb' 4 4 = 2 then .cmdSetBypass (if w.extractLsb' 0 1 = 0 then .framed else .raw)
    else if w.extractLsb' 4 4 = 3 ∧ w.extractLsb' 0 1 = 0 then .cmdResetCounters
    else if w.extractLsb' 4 4 = 4 ∧ w.extractLsb' 0 1 = 0 then .cmdStop
    else .cmdIllegal w
  else .cmdIllegal w

/-- The first token of a byte sequence in a context, and the bytes after it; refused by name where the context needs a byte and
there is none. A token is one byte, an escape pair two, the signal none (R88). -/
def decode (c : TokenContext) (bs : List Byte) : Except DecodeError (Instr × List Byte) :=
  match c, bs with
  | .signal, bs => .ok (.srcTransportError, bs)
  | .destuff, bs =>
    match decodeDestuff bs with
    | some r => .ok r
    | none => .error (.noByte .destuff)
  | .streamRf, b :: bs => .ok (decodeRf b, bs)
  | .streamRs422, b :: bs => .ok (.rsData b, bs)
  | .streamRaw, b :: bs => .ok (.rawBypass b, bs)
  | .tag, b :: bs => .ok (decodeTag b, bs)
  | .status, b :: bs => .ok (decodeStatus b, bs)
  | .latHemisphere, b :: bs => .ok (decodeHemisphere .latitude b, bs)
  | .lonHemisphere, b :: bs => .ok (decodeHemisphere .longitude b, bs)
  | .command, b :: bs => .ok (decodeCommand b, bs)
  | .streamRf, [] => .error (.noByte .streamRf)
  | .streamRs422, [] => .error (.noByte .streamRs422)
  | .streamRaw, [] => .error (.noByte .streamRaw)
  | .tag, [] => .error (.noByte .tag)
  | .status, [] => .error (.noByte .status)
  | .latHemisphere, [] => .error (.noByte .latHemisphere)
  | .lonHemisphere, [] => .error (.noByte .lonHemisphere)
  | .command, [] => .error (.noByte .command)

/-- The context whose table holds the token (R90). -/
def contextOf : Instr → TokenContext
  | .rfStart => .streamRf
  | .rfEnd => .streamRf
  | .rfData _ => .streamRf
  | .rsData _ => .streamRs422
  | .rawBypass _ => .streamRaw
  | .dsLit _ => .destuff
  | .dsEscCA => .destuff
  | .dsEscEF => .destuff
  | .dsEscBD => .destuff
  | .dsEscBad _ => .destuff
  | .dsEscTrunc => .destuff
  | .ftTelemetry => .tag
  | .ftImgFirst => .tag
  | .ftImgLast => .tag
  | .ftImgMid _ => .tag
  | .statOff => .status
  | .statReady => .status
  | .statOverVoltage => .status
  | .statOverCurrent => .status
  | .statOn => .status
  | .statUnknown _ => .status
  | .hemiLatS => .latHemisphere
  | .hemiLonW => .lonHemisphere
  | .hemiOther .latitude _ => .latHemisphere
  | .hemiOther .longitude _ => .lonHemisphere
  | .cmdSetMode _ => .command
  | .cmdSetBypass _ => .command
  | .cmdResetCounters => .command
  | .cmdStop => .command
  | .cmdIllegal _ => .command
  | .srcTransportError => .signal

/-- The bytes of a token (R74, R76 to R78, R82, R83). -/
def encode : Instr → List Byte
  | .rfStart => [0xCA]
  | .rfEnd => [0xEF]
  | .rfData b => [b]
  | .rsData b => [b]
  | .rawBypass b => [b]
  | .dsLit b => [b]
  | .dsEscCA => [0xBD, 0xDC]
  | .dsEscEF => [0xBD, 0xDE]
  | .dsEscBD => [0xBD, 0xDB]
  | .dsEscBad c => [0xBD, c]
  | .dsEscTrunc => [0xBD]
  | .ftTelemetry => [0xFF]
  | .ftImgFirst => [0x00]
  | .ftImgLast => [0x1A]
  | .ftImgMid t => [t]
  | .statOff => [0]
  | .statReady => [1]
  | .statOverVoltage => [2]
  | .statOverCurrent => [3]
  | .statOn => [4]
  | .statUnknown x => [x]
  | .hemiLatS => [0x53]
  | .hemiLonW => [0x57]
  | .hemiOther _ h => [h]
  | .cmdSetMode .rf => [0x10]
  | .cmdSetMode .rs422 => [0x11]
  | .cmdSetBypass .framed => [0x20]
  | .cmdSetBypass .raw => [0x21]
  | .cmdResetCounters => [0x30]
  | .cmdStop => [0x40]
  | .cmdIllegal w => [w]
  | .srcTransportError => []

/-- The context in which a byte is read when none is given: that of the row with the larger mask over ALL tables of the opcode
table (R87 applied to the whole table), the first such row in the table's order; a byte no row names is read as a stream byte of
mode RF. DESIGN CHOICE, log entry 8: only `decodeTableWord` and `State.withFetchWord` use it. -/
def tableContext (b : Byte) : TokenContext :=
  if b = sentStart ∨ b = sentEnd then .streamRf
  else if b = escByte then .destuff
  else if b = tagTelemetry ∨ b = imgFirst ∨ b = imgLast then .tag
  else if b.toNat < 5 then .status
  else if b = asciiS then .latHemisphere
  else if b = asciiW then .lonHemisphere
  else if legalCommandWords.contains b then .command
  else .streamRf

/-- The context and bytes of a table row's word of `nbits` bits: no bits is the signal (R83), 8 bits one byte, 16 bits an escape
pair with the escape byte, the one at the lower position, in bits 15:8 (R73, R90). -/
def tableToken (nbits w : Nat) : Option (TokenContext × List Byte) :=
  if nbits = 0 then some (.signal, [])
  else if nbits = 8 then some (tableContext (BitVec.ofNat 8 w), [BitVec.ofNat 8 w])
  else if nbits = 16 then
    if BitVec.ofNat 8 (w / 256) = escByte then some (.destuff, [BitVec.ofNat 8 (w / 256), BitVec.ofNat 8 w]) else none
  else none

/-- The token the decoder reads from a table row's word, where the word is one whole token. -/
def decodeTableWord (nbits w : Nat) : Option Instr :=
  match tableToken nbits w with
  | none => none
  | some (c, bs) =>
    match decode c bs with
    | .ok (i, []) => some i
    | .ok (_, _ :: _) => none
    | .error _ => none

end Sys2Proof
end

