-- ==== Sys2Proof/Machine/Assembler.lean ====
section
/-! DEFINITION. The input programs and pseudo-instructions of 30_encoding.md R89 (D42): functions that build frames and inputs. -/

namespace Sys2Proof.Machine

/-- `STUFF(s)`: 0xCA, 0xEF and 0xBD become their escape pairs, every other byte is copied. -/
def stuff : List Byte → List Byte
  | [] => []
  | b :: rest =>
    (if b = 0xCA then [0xBD, 0xDC] else if b = 0xEF then [0xBD, 0xDE] else if b = 0xBD then [0xBD, 0xDB] else [b])
      ++ stuff rest

/-- `CRCBE(s)`: the checksum, high byte first. -/
def crcBe (s : List Byte) : List Byte := [(crc16 s).extractLsb' 8 8, (crc16 s).extractLsb' 0 8]

/-- `MKFRAME(tag, d, r1, r2)`: the frame with tag and the 277 bytes d of offsets 3..279. -/
def mkFrame (tag : Byte) (d : List Byte) (r1 r2 : Byte) : List Byte :=
  [0xCA, r1, tag] ++ d ++ crcBe ([tag] ++ d) ++ [r2, 0xEF]

/-- The 282 bytes of frame offsets 1..282. -/
def frameBody (f : List Byte) : List Byte := (f.drop 1).take 282

/-- `RFFRAME F`: the wire bytes of a frame in mode RF. -/
def rfFrame (f : List Byte) : List Byte := [0xCA] ++ stuff (frameBody f) ++ [0xEF]

/-- `RSFRAME F`: the wire bytes of a frame in mode RS422. -/
def rsFrame (f : List Byte) : List Byte := frameBody f

/-- One line of an input program. -/
inductive ProgramLine where
  /-- `BYTES h0 h1 ...` -/
  | bytes (bs : List Byte)
  /-- `ZEROS n` -/
  | zeros (n : Nat)
  /-- `CMD SET_MODE m` -/
  | setMode (m : Mode)
  /-- `CMD SET_BYPASS p` -/
  | setBypass (p : Bypass)
  /-- `CMD RESET_COUNTERS` -/
  | resetCounters
  /-- `CMD STOP` -/
  | stop
  /-- `TERR` -/
  | terr
  /-- a line n times -/
  | times (n : Nat) (l : ProgramLine)
deriving DecidableEq, Repr

/-- The inputs of a line. -/
def lineInputs : ProgramLine → List Input
  | .bytes bs => bs.map .byte
  | .zeros n => List.replicate n (.byte 0)
  | .setMode m => (encode (.cmdSetMode m)).map .cmd
  | .setBypass p => (encode (.cmdSetBypass p)).map .cmd
  | .resetCounters => (encode .cmdResetCounters).map .cmd
  | .stop => (encode .cmdStop).map .cmd
  | .terr => [.terr]
  | .times n l => (List.replicate n (lineInputs l)).flatten

/-- The inputs of a program, line by line. -/
def programInputs (p : List ProgramLine) : List Input := p.flatMap lineInputs

end Sys2Proof.Machine
end

