-- ==== Sys2Proof/Machine/Fetch.lean ====
section
/-! DEFINITION. How a step finds its token: the next input and the table that applies to it (46_control.md R270, 42_framer.md
R140), or the sub-unit latch; and how a table row's word is placed for the next step. -/

namespace Sys2Proof.Machine

/-- The table that applies to an input: a stream byte's by `st.bypass` first and then `st.mode`, never by the byte (R87, R140). -/
def inputContext (s : State) : Input → TokenContext
  | .byte _ =>
    match s.bypass, s.mode with
    | .raw, _ => .streamRaw
    | .framed, .rf => .streamRf
    | .framed, .rs422 => .streamRs422
  | .cmd _ => .command
  | .terr => .signal

/-- The bits of an input (R70). -/
def inputBytes : Input → List Byte
  | .byte b => [b]
  | .cmd w => [w]
  | .terr => []

/-- What a step finds to do. -/
inductive Fetched where
  /-- nothing to run; the state after -/
  | idle (s : State)
  /-- a token to run, and the state it runs in -/
  | token (i : Instr) (s : State)
  /-- no token can be read -/
  | stuck (f : Fault)
deriving DecidableEq, Repr

/-- The next input is taken: it is decoded while RUNNING and not refused, and has no effect otherwise (R270, R277). Log entry 18. -/
def takeInput (x : Input) (s : State) : Fetched :=
  if acceptsInput s then
    match decode (inputContext s x) (inputBytes x) with
    | .ok (i, _) => .token i s
    | .error (.noByte c) => .stuck (.noToken c)
  else .idle s

/-- The sub-unit latch gives its first token and keeps the bytes after it. Log entry 7. -/
def takeUnitToken (c : TokenContext) (bs : List Byte) (s : State) : Fetched :=
  if acceptsInput s then
    match decode c bs with
    | .ok (i, []) => .token i (setUnitToken none s)
    | .ok (i, b :: rest) => .token i (setUnitToken (some (c, b :: rest)) s)
    | .error (.noByte c) => .stuck (.noToken c)
  else .idle (setUnitToken none s)

/-- What the next step runs: the sub-unit latch where it is filled, else the first input; with neither the block waits, since
nothing advances it but an input (R21). -/
def fetch (s : State) : Fetched :=
  match s.unitToken with
  | some (c, bs) => takeUnitToken c bs s
  | none =>
    match s.inputs with
    | [] => .idle s
    | x :: rest => takeInput x (setInputs rest s)

/-- The frame a tag token placed alone runs on: an Ok frame with that tag and zeros (R89, R180). -/
def tagFrame (t : Byte) : Memory := mkFrame t (List.replicate 277 0) 0 0

/-- A token placed where the next step fetches: a stream byte, a command word or the signal as the first input, with the bypass
and mode that select its table; a token decoded inside a frame's step in the sub-unit latch, a tag with its frame in FB. The
block is left RUNNING and not refused, which every token needs (R277). Log entry 8. -/
def placeToken (c : TokenContext) (bs : List Byte) (s : State) : State :=
  let s := { s with run := .running, refused := false, unitToken := none }
  match c with
  | .streamRf => { s with bypass := .framed, mode := .rf, inputs := bs.map .byte ++ s.inputs }
  | .streamRs422 => { s with bypass := .framed, mode := .rs422, inputs := bs.map .byte ++ s.inputs }
  | .streamRaw => { s with bypass := .raw, inputs := bs.map .byte ++ s.inputs }
  | .command => { s with inputs := bs.map .cmd ++ s.inputs }
  | .signal => { s with inputs := .terr :: s.inputs }
  | .tag => { s with unitToken := some (.tag, bs), fb := (bs.take 1).flatMap tagFrame }
  | .destuff => { s with unitToken := some (.destuff, bs) }
  | .status => { s with unitToken := some (.status, bs) }
  | .latHemisphere => { s with unitToken := some (.latHemisphere, bs) }
  | .lonHemisphere => { s with unitToken := some (.lonHemisphere, bs) }

/-- Inputs presented after those not taken yet (R278, R281). -/
def present (xs : List Input) (s : State) : State := setInputs (s.inputs ++ xs) s

end Sys2Proof.Machine
end

