-- ==== Sys2Proof/Machine/Step.lean ====
section
/-! DEFINITION. The top-level step (46_control.md R270) and the placing of a table row's word. -/

namespace Sys2Proof.Machine

/-- One step takes one input and does everything it causes, a whole frame's processing included (R14, R270). -/
def step (s : State) : Host.Outcome State Fault Refusal :=
  match fetch s with
  | .idle s' => .next s'
  | .token i s' => exec i s'
  | .stuck f => .fault f

/-- The state with a table row's word where the next step fetches (log entries 6 to 8). -/
def State.withFetchWord (s : State) (nbits w : Nat) : State :=
  match tableToken nbits w with
  | some (c, bs) => placeToken c bs s
  | none => s

end Sys2Proof.Machine
end

