-- ==== Sys2Proof/Safety.lean ====
section
/-! DEFINITION. The terms in which claims about the block are stated: runs, the invariants of 10_state.md R37, and the values of
a telemetry frame and of the de-stuffer written as plain functions of the bytes, independent of the machine's own readers. -/

namespace Sys2Proof.Machine

/-! ### Runs -/

/-- n steps from any state, stopping at the first fault or refusal; runFromReset is the run of R281. -/
def run : Nat → State → Host.Outcome State Fault Refusal
  | 0, s => .next s
  | n + 1, s =>
    match step s with
    | .next s' => run n s'
    | .fault f => .fault f
    | .refused r => .refused r

/-- A run (R281): the finite input sequence xs presented from the reset state, one step for each input. Log entry 6. -/
def runFromReset (xs : List Input) : Host.Outcome State Fault Refusal := run xs.length (present xs State.reset)

/-- What a run shows in the state it has reached (R281): the event list and the status view. Nothing before the run has ended, that
is while an input is left to take, and nothing where the state carries the refused mark (R276). Log entry 17. -/
def observation (s : State) : Option (List Event × StatusView) :=
  if s.refused = true ∨ s.inputs ≠ [] then none else some (s.events, statusView s)

/-- A claim about the run of an input sequence (R281): the run goes through to its end and its observation satisfies the claim. The
configuration is the opaque constants of Config, so a claim that names them does so by a premise. A refused run has no observation
and satisfies no claim (R276, D47). -/
def RunSatisfies (claim : List Event → StatusView → Prop) (xs : List Input) : Prop :=
  ∃ t es v, runFromReset xs = .next t ∧ observation t = some (es, v) ∧ claim es v

/-- The run of an input sequence meets no fault and no refusal, neither of the step nor by the refused mark (R276). -/
def runsSafely (xs : List Input) : Prop := RunSatisfies (fun _ _ => True) xs

/-- Nothing but inputs is pending, and the block takes them: RUNNING, not refused, the sub-unit latch empty. -/
def Listening (s : State) : Prop := s.run = .running ∧ s.refused = false ∧ s.unitToken = none

/-! ### Invariants -/

/-- The invariant of R37, clause by clause. -/
structure FramerImageInv (s : State) : Prop where
  /-- (a) -/
  outsideEmpty : s.mode = .rf → s.inside = false → s.acc = [] ∧ s.accOver = false
  /-- (b) -/
  insideRf : s.inside = true → s.mode = .rf ∧ s.bypass = .framed ∧ s.acc[0]? = some 0xCA
  /-- (c) -/
  rs422Short : s.mode = .rs422 → s.bypass = .framed → s.acc.length ≤ 281 ∧ s.inside = false
  /-- (d) -/
  rawEmpty : s.bypass = .raw → s.acc = [] ∧ s.inside = false
  /-- (e) -/
  closedEmpty : s.imgOpen = false → s.imgCount = 0 ∧ s.imgBuf = []
  /-- (f) -/
  openCount : s.imgOpen = true → 1 ≤ s.imgCount ∧ s.imgCount ≤ 26
  /-- (g) -/
  bufLength : s.imgBuf.length = 278 * s.imgCount

/-- The accumulation fits its address space (R50, R145): the start sentinel and at most RF_BODY_CAP body bytes. -/
def AccInBounds (s : State) : Prop := s.acc.length ≤ rfBodyCap + 1

/-- The elements that live only inside a step are empty, and so is the sub-unit latch (R35; log entries 7 and 9). -/
structure UnitsIdle (s : State) : Prop where
  noFrame : s.fb = []
  noOutput : s.dsOut = []
  atStart : s.dsPos = 0
  noVerdict : s.dsAmbiguous = false
  noStatus : s.pduStatuses = []
  noLatitude : s.latitude = .finite 0
  noLongitude : s.longitude = .finite 0
  noToken : s.unitToken = none

/-! ### The de-stuffer as a function (R100, R107) -/

/-- `destuff(r)`: the de-stuffed bytes, or nothing for `Ambiguous`. -/
def destuffOf : List Byte → Option (List Byte)
  | [] => some []
  | b :: rest =>
    if b = 0xBD then
      match rest with
      | [] => none
      | c :: rest' =>
        if c = 0xDC then (destuffOf rest').map (0xCA :: ·)
        else if c = 0xDE then (destuffOf rest').map (0xEF :: ·)
        else if c = 0xDB then (destuffOf rest').map (0xBD :: ·)
        else none
    else (destuffOf rest).map (b :: ·)

/-! ### Telemetry as a function of the frame's bytes -/

/-- The byte at a frame offset; used only inside the frame. -/
def byteAt (m : Memory) (o : Nat) : Byte := m.getD o 0

/-- The signed big-endian value at an offset (R183): minus 65536 from 0x8000 up. -/
def s16At (m : Memory) (o : Nat) : Int :=
  let u : Int := (byteAt m o).toNat * 256 + (byteAt m (o + 1)).toNat
  if 0x8000 ≤ u then u - 65536 else u

/-- The big-endian 64-bit pattern at an offset (R81). -/
def f64At (m : Memory) (o : Nat) : F64 :=
  BitVec.ofNat 64 ((byteAt m o).toNat * 2 ^ 56 + (byteAt m (o + 1)).toNat * 2 ^ 48 + (byteAt m (o + 2)).toNat * 2 ^ 40
    + (byteAt m (o + 3)).toNat * 2 ^ 32 + (byteAt m (o + 4)).toNat * 2 ^ 24 + (byteAt m (o + 5)).toNat * 2 ^ 16
    + (byteAt m (o + 6)).toNat * 2 ^ 8 + (byteAt m (o + 7)).toNat)

/-- The reading at an offset with a divisor and a fail rule (R182, R184, R185). -/
def readingAt (m : Memory) (o : Nat) (scale : Scale) (fail : Bool) : Reading :=
  if fail = true ∧ (s16At m o = -32768 ∨ s16At m o = 32767) then .fail else .val (s16At m o) scale

/-- The enumerator of a status byte (R77, R187). -/
def statusOf (x : Byte) : Status :=
  if x.toNat = 0 then .off
  else if x.toNat = 1 then .ready
  else if x.toNat = 2 then .overVoltage
  else if x.toNat = 3 then .overCurrent
  else if x.toNat = 4 then .on
  else .unknown x

/-- `coord(v, h, neg)` (R197, R200, R201). -/
def coordOf (v : F64) (h neg : Byte) : Coord :=
  if f64Exp v = 2047 then .nonfinite
  else
    let deg := f64Floor (f64DivNat v 100)
    let m := f64Sub v (f64MulNat 100 deg)
    let x := f64Add deg (f64DivNat m 60)
    .finite (if h = neg then x ^^^ 0x8000000000000000#64 else x)

/-- The telemetry record of a frame, every field at the offset of R188 (R181, R189 to R194). -/
def recordAt (m : Memory) : TelemetryRecord where
  time := ⟨byteAt m 3, byteAt m 4, byteAt m 5, byteAt m 6, byteAt m 7⟩
  iou := (List.range 15).map fun i =>
    readingAt m (9 + 2 * i) (if i = 0 then .ten else Config.iouScale i) (if i = 0 then true else Config.iouFail i)
  rgbw := [byteAt m 39, byteAt m 40, byteAt m 41, byteAt m 42]
  ir := byteAt m 43
  inert := (List.range 7).map fun j => readingAt m (44 + 2 * j) (Config.inertScale j) true
  pdu := (List.range 18).map fun k => (statusOf (byteAt m (58 + 3 * k)), readingAt m (59 + 3 * k) (Config.pduScale k) false)
  pmu := (List.range 12).map fun i =>
    if i < 4 then readingAt m (112 + 2 * i) .hundred true else readingAt m (112 + 2 * i) (Config.pmuScale i) false

/-- The GPS fix of a frame (R196). -/
def fixAt (m : Memory) : GpsFix where
  hh := byteAt m 137
  mm := byteAt m 138
  ss := byteAt m 139
  hs := byteAt m 140
  lat := coordOf (f64At m 141) (byteAt m 149) 0x53
  lon := coordOf (f64At m 150) (byteAt m 158) 0x57

/-- Where the table puts a field (R188). -/
def offsetOf (id : FieldId) : Nat := ((lut.find? fun r => r.id = id).map FieldRow.off).getD 0

/-! ### Rounding (R197, D15)

The exact result of an operation is a quotient n/d of an integer by a positive natural, in units of 2^-1074. -/

/-- From this magnitude on, in units of 2^-1074, a value rounds to an infinity: half a last place above the largest finite number.
General knowledge of IEEE-754, log entry 13. -/
def f64Overflow : Nat := (2 ^ 54 - 1) * 2 ^ 2044

/-- No finite binary64 number is nearer to n/d than z, and where another value is as near, z's pattern is even. -/
def NearestEven (z : F64) (n : Int) (d : Nat) : Prop :=
  ∀ y : F64, f64IsFinite y = true →
    (f64Units z * d - n).natAbs ≤ (f64Units y * d - n).natAbs ∧
    ((f64Units z * d - n).natAbs = (f64Units y * d - n).natAbs → f64Units y ≠ f64Units z → z.toNat % 2 = 0)

/-- z is n/d rounded once to nearest, ties to even: a finite number below the overflow magnitude, the infinity of n's sign from it
on. -/
def RoundsTo (z : F64) (n : Int) (d : Nat) : Prop :=
  (n.natAbs < f64Overflow * d → f64IsFinite z = true ∧ NearestEven z n d) ∧
  (f64Overflow * d ≤ n.natAbs → f64IsInf z = true ∧ f64Sign z = decide (n < 0))

/-! ### Frames and events -/

/-- A frame as R71 lays it out, with a matching checksum (R124). -/
structure ValidFrame (f : List Byte) : Prop where
  length : f.length = 284
  start : f[0]? = some 0xCA
  stop : f[283]? = some 0xEF
  checksum : crcOk f = true

/-- The event is an OUTCOME. -/
def isOutcome : Event → Bool
  | .outcome _ => true
  | .telemetry _ _ => false
  | .image _ => false
  | .raw _ => false
  | .transportError => false

/-- The event is an IMAGE. -/
def isImage : Event → Bool
  | .outcome _ => false
  | .telemetry _ _ => false
  | .image _ => true
  | .raw _ => false
  | .transportError => false

/-- How many events of a list satisfy a test, as a counter counts them (modulo 2^32, R252). -/
def tally (p : Event → Bool) (es : List Event) : Counter := BitVec.ofNat 32 (es.countP p)

/-- What one step may emit (R254, R255): at most two events, OUTCOME first, a record or an image only after OUTCOME(Ok). -/
inductive StepEvents : List Event → Prop where
  | silent : StepEvents []
  | outcome (o : FrameOutcome) : StepEvents [.outcome o]
  | telemetry (rec : TelemetryRecord) (gps : Option GpsFix) : StepEvents [.outcome .ok, .telemetry rec gps]
  | image (buf : List Byte) : StepEvents [.outcome .ok, .image buf]
  | raw (b : Byte) : StepEvents [.raw b]
  | transportError : StepEvents [.transportError]

/-- The outcome of a mode-RF raw frame with the unbounded buffer (R144, R145). -/
def rfOutcomeOf (r : List Byte) : FrameOutcome :=
  match destuffOf r with
  | none => .lengthInvalid
  | some d => if d.length = 284 then (if crcOk d then .ok else .checksumInvalid) else .lengthInvalid

end Sys2Proof.Machine
end

