-- ==== Sys2Proof/Certificates/Slice0/Obligations.lean ====
section
/-! DEFINITION. The statements for the provers, each from a numbered rule of spec/ named in its docstring; OBLIGATIONS.json lists
them. A full equation `exec i s = .next { s with … }` is the token's result, its completion and its frame at once: every element
not named keeps its value, every byte of every buffer included. -/

open Sys2Proof Sys2Proof.Machine

/-! ### Stream bytes -/

/-- R141. RF_START opens a fresh frame whatever was buffered. -/
def Obligations.RfStartOpensFreshFrame : Prop :=
  ∀ s : State, exec .rfStart s = .next { s with acc := [0xCA], inside := true, accOver := false }

/-- R143. RF_DATA is dropped outside a frame, appended inside up to RF_BODY_CAP body bytes, and sets acc_over past them. -/
def Obligations.RfDataAccumulates : Prop :=
  ∀ (s : State) (b : Byte),
    exec (.rfData b) s = .next
      (if s.inside = false then s
       else if s.acc.length < rfBodyCap + 1 then { s with acc := s.acc ++ [b] }
       else { s with accOver := true })

/-- R142, R144, R305. RF_END: nothing outside a frame; inside, the framer is cleared, the raw frame is classified by overflow,
ambiguity, length and checksum in this order, counted and reported, and an Ok frame goes on to the token of its tag. That the
de-stuffer's registers are State's and are empty afterwards is the model's (log entry 9; R100 and R109 keep nothing). -/
def Obligations.RfEndClassifiesFrame : Prop :=
  ∀ s : State,
    (s.inside = false → exec .rfEnd s = .next s) ∧
    (s.inside = true →
      let r := s.acc ++ [0xEF]
      let c : State := { s with
        acc := [], inside := false, accOver := false, dsOut := [], dsPos := 0, dsAmbiguous := false
        cntFrames := s.cntFrames + 1 }
      ((s.accOver = true ∨ destuffOf r = none ∨ ∃ d, destuffOf r = some d ∧ d.length ≠ 284) →
        exec .rfEnd s = .next { c with
          cntLenFail := s.cntLenFail + 1, events := s.events ++ [.outcome .lengthInvalid] }) ∧
      (∀ d, s.accOver = false → destuffOf r = some d → d.length = 284 → crcOk d = false →
        exec .rfEnd s = .next { c with
          cntCrcFail := s.cntCrcFail + 1, events := s.events ++ [.outcome .checksumInvalid] }) ∧
      (∀ d, s.accOver = false → destuffOf r = some d → d.length = 284 → crcOk d = true →
        ∃ t, exec (decodeTag (byteAt d 2)) { c with events := s.events ++ [.outcome .ok], fb := d } = .next t ∧
          exec .rfEnd s = .next t))

/-- R146, R147. RS_DATA: a byte is appended; the 282nd completes the frame with the sentinels added and nothing de-stuffed. -/
def Obligations.RsDataCompletesAt282 : Prop :=
  ∀ (s : State) (b : Byte),
    (s.acc.length ≠ 281 → exec (.rsData b) s = .next { s with acc := s.acc ++ [b] }) ∧
    (s.acc.length = 281 →
      let f := [0xCA] ++ (s.acc ++ [b]) ++ [0xEF]
      let c : State := { s with acc := [], inside := false, accOver := false, cntFrames := s.cntFrames + 1 }
      (crcOk f = false →
        exec (.rsData b) s = .next { c with
          cntCrcFail := s.cntCrcFail + 1, events := s.events ++ [.outcome .checksumInvalid] }) ∧
      (crcOk f = true →
        ∃ t, exec (decodeTag (byteAt f 2)) { c with events := s.events ++ [.outcome .ok], fb := f } = .next t ∧
          exec (.rsData b) s = .next t))

/-- R150, R257. RAW_BYPASS forwards the byte and changes nothing else. -/
def Obligations.RawBypassForwardsByte : Prop :=
  ∀ (s : State) (b : Byte), exec (.rawBypass b) s = .next { s with events := s.events ++ [.raw b] }

/-! ### The step -/

/-- R140. Which token a stream byte is, by bypass first and then mode. -/
def Obligations.StreamByteDispatch : Prop :=
  ∀ (s : State) (b : Byte) (rest : List Input), Listening s → s.inputs = .byte b :: rest →
    let s' : State := { s with inputs := rest }
    (s.bypass = .raw → step s = exec (.rawBypass b) s') ∧
    (s.bypass = .framed → s.mode = .rs422 → step s = exec (.rsData b) s') ∧
    (s.bypass = .framed → s.mode = .rf → b = 0xCA → step s = exec .rfStart s') ∧
    (s.bypass = .framed → s.mode = .rf → b = 0xEF → step s = exec .rfEnd s') ∧
    (s.bypass = .framed → s.mode = .rf → b ≠ 0xCA → b ≠ 0xEF → step s = exec (.rfData b) s')

/-- R82, R83, R84, R270. Which token a command word or the signal is, in every mode. -/
def Obligations.CommandWordDispatch : Prop :=
  ∀ (s : State) (w : Byte) (rest : List Input), Listening s →
    let s' : State := { s with inputs := rest }
    (s.inputs = .cmd w :: rest →
      (w = 0x10 → step s = exec (.cmdSetMode .rf) s') ∧
      (w = 0x11 → step s = exec (.cmdSetMode .rs422) s') ∧
      (w = 0x20 → step s = exec (.cmdSetBypass .framed) s') ∧
      (w = 0x21 → step s = exec (.cmdSetBypass .raw) s') ∧
      (w = 0x30 → step s = exec .cmdResetCounters s') ∧
      (w = 0x40 → step s = exec .cmdStop s') ∧
      (w ≠ 0x10 → w ≠ 0x11 → w ≠ 0x20 → w ≠ 0x21 → w ≠ 0x30 → w ≠ 0x40 → step s = exec (.cmdIllegal w) s')) ∧
    (s.inputs = .terr :: rest → step s = exec .srcTransportError s')

/-- A step runs the token decoded from the next input, in the state without that input (model form of R270; log entry 6). -/
def Obligations.StepRunsDecodedInput : Prop :=
  ∀ (s : State) (x : Input) (rest : List Input) (i : Instr) (bs : List Byte),
    Listening s → s.inputs = x :: rest → decode (inputContext s x) (inputBytes x) = .ok (i, bs) →
      step s = exec i { s with inputs := rest }

/-- R277. A block that is STOPPED or FAULTED takes an input without effect and emits nothing, and stays as it is with none. That
the input leaves the model's list is log entry 18, and the step with no input pending is log entry 6. -/
def Obligations.HaltedBlockIgnoresInputs : Prop :=
  ∀ s : State, s.unitToken = none → s.run = .stopped ∨ s.run = .faulted →
    (∀ x rest, s.inputs = x :: rest → step s = .next { s with inputs := rest }) ∧ (s.inputs = [] → step s = .next s)

/-- The model's choice (log entries 6 and 18): a refused block takes its inputs without effect, and with no input pending a step of
any block changes nothing. -/
def Obligations.RefusedOrEmptyBlockWaits : Prop :=
  ∀ s : State, s.unitToken = none →
    (∀ x rest, s.refused = true → s.inputs = x :: rest → step s = .next { s with inputs := rest }) ∧
    (s.inputs = [] → step s = .next s)

/-- No step of a block whose sub-unit latch is empty stops: per-frame errors, illegal words and a transport error are next
states (R304, R205, R276; the latch is the model's, log entry 7). -/
def Obligations.EveryStepAnswersNext : Prop :=
  ∀ s : State, s.unitToken = none → ∃ t, step s = .next t ∧ t.unitToken = none

/-- A table row's word placed by the model is decoded and run by the very next step (log entry 8). -/
def Obligations.PlacedWordRunsNext : Prop :=
  ∀ (s : State) (nbits w : Nat) (i : Instr), decodeTableWord nbits w = some i →
    ∃ s', fetch (s.withFetchWord nbits w) = .token i s' ∧ step (s.withFetchWord nbits w) = exec i s'

/-! ### De-stuffer -/

/-- R101 to R106. What each token does to the output, the scan index and the verdict. -/
def Obligations.DestufferTokenEffects : Prop :=
  ∀ (s : State) (b c : Byte),
    exec (.dsLit b) s = .next { s with dsOut := s.dsOut ++ [b], dsPos := s.dsPos + 1 } ∧
    exec .dsEscCA s = .next { s with dsOut := s.dsOut ++ [0xCA], dsPos := s.dsPos + 2 } ∧
    exec .dsEscEF s = .next { s with dsOut := s.dsOut ++ [0xEF], dsPos := s.dsPos + 2 } ∧
    exec .dsEscBD s = .next { s with dsOut := s.dsOut ++ [0xBD], dsPos := s.dsPos + 2 } ∧
    exec (.dsEscBad c) s = .next { s with dsAmbiguous := true } ∧
    exec .dsEscTrunc s = .next { s with dsAmbiguous := true }

/-- R107. The scan computes `destuff(r)` and touches nothing but the de-stuffer's registers. -/
def Obligations.DestufferScanComputesDestuff : Prop :=
  ∀ (r : List Byte) (s : State),
    (∀ d, destuffOf r = some d → destuffFrame r s = { s with dsOut := d, dsPos := r.length, dsAmbiguous := false }) ∧
    (destuffOf r = none → ∃ out pos, destuffFrame r s = { s with dsOut := out, dsPos := pos, dsAmbiguous := true })

/-- R107, R87. The scan runs the decoder's tokens one after another and ends at the first undefined pair. -/
def Obligations.DestufferScanRunsDecodedTokens : Prop :=
  ∀ (r rest : List Byte) (i : Instr) (s : State),
    decode .destuff r = .ok (i, rest) → s.dsAmbiguous = false →
      ∃ t, exec i s = .next t ∧ destuffScan r s = if t.dsAmbiguous = true then t else destuffScan rest t

/-- R111. De-stuffing inverts stuffing, is the identity where there is no escape byte, and on bodies without raw sentinels the
stuffed form is unique. -/
def Obligations.StuffingRoundTrips : Prop :=
  (∀ (bs : List Byte) (s : State),
    destuffFrame (stuff bs) s = { s with dsOut := bs, dsPos := (stuff bs).length, dsAmbiguous := false }) ∧
  (∀ (bs : List Byte) (s : State), 0xBD ∉ bs →
    destuffFrame bs s = { s with dsOut := bs, dsPos := bs.length, dsAmbiguous := false }) ∧
  (∀ (body : List Byte) (s : State), 0xCA ∉ body → 0xEF ∉ body → (destuffFrame body s).dsAmbiguous = false →
    stuff (destuffFrame body s).dsOut = body)

/-- R110, the bounds and the sentinels. -/
def Obligations.DestuffedLengthLaw : Prop :=
  (∀ (r : List Byte) (s : State), (destuffFrame r s).dsAmbiguous = false →
    (destuffFrame r s).dsOut.length ≤ r.length ∧ r.length ≤ 2 * (destuffFrame r s).dsOut.length) ∧
  (∀ (body : List Byte) (s : State), (destuffFrame ([0xCA] ++ body ++ [0xEF]) s).dsAmbiguous = false →
    (destuffFrame ([0xCA] ++ body ++ [0xEF]) s).dsOut.head? = some 0xCA ∧
    (destuffFrame ([0xCA] ++ body ++ [0xEF]) s).dsOut.getLast? = some 0xEF)

/-! ### CRC -/

/-- R127. The check value over ASCII "123456789". -/
def Obligations.CrcCheckValue : Prop :=
  crc16 [0x31, 0x32, 0x33, 0x34, 0x35, 0x36, 0x37, 0x38, 0x39] = 0x31C3

/-- R125. The verdict is that the CRC over offsets 2..281 is zero. -/
def Obligations.CrcResidueLaw : Prop :=
  ∀ fb : List Byte, fb.length = 284 → (crcOk fb = true ↔ crc16 ((fb.drop 2).take 280) = 0)

/-- R126. Every single-bit error inside offsets 2..281 of a frame with a matching checksum is detected. -/
def Obligations.SingleBitErrorsDetected : Prop :=
  ∀ (fb : List Byte) (o k : Nat), fb.length = 284 → crcOk fb = true → 2 ≤ o → o ≤ 281 → k < 8 →
    crcOk (fb.set o (byteAt fb o ^^^ ((1 : Byte) <<< k))) = false

/-! ### Framer, end to end -/

/-- R145. Over a whole mode-RF frame on the wire, the bounded accumulation gives exactly the outcome the unbounded one gives,
for every RF_BODY_CAP of at least 564. The de-stuffer's registers, empty afterwards, are the model's (log entry 9). -/
def Obligations.RfBodyCapUnobservable : Prop :=
  ∀ (s : State) (bs : List Byte), Listening s → s.mode = .rf → s.bypass = .framed →
    (∀ b ∈ bs, b ≠ 0xCA ∧ b ≠ 0xEF) → s.inputs = ([0xCA] ++ bs ++ [0xEF]).map Input.byte →
    let r := [0xCA] ++ bs ++ [0xEF]
    let c : State := { s with
      inputs := [], acc := [], inside := false, accOver := false, dsOut := [], dsPos := 0, dsAmbiguous := false
      cntFrames := s.cntFrames + 1
      cntLenFail := if rfOutcomeOf r = .lengthInvalid then s.cntLenFail + 1 else s.cntLenFail
      cntCrcFail := if rfOutcomeOf r = .checksumInvalid then s.cntCrcFail + 1 else s.cntCrcFail
      events := s.events ++ [.outcome (rfOutcomeOf r)] }
    (rfOutcomeOf r ≠ .ok → run r.length s = .next c) ∧
    (∀ d, rfOutcomeOf r = .ok → destuffOf r = some d →
      ∃ t, exec (decodeTag (byteAt d 2)) { c with fb := d } = .next t ∧ run r.length s = .next t)

/-- R72, R75, R111, R147. A valid frame sent in the wire form of either mode reaches its tag's token unchanged, with one OUTCOME(Ok)
counted and reported. The de-stuffer's registers, empty after the RF form, are the model's (log entry 9). -/
def Obligations.ValidFrameArrivesInBothModes : Prop :=
  ∀ (s : State) (f : List Byte) (rest : List Input), Listening s → s.bypass = .framed → ValidFrame f →
    let c : State := { s with
      inputs := rest, acc := [], inside := false, accOver := false, cntFrames := s.cntFrames + 1
      events := s.events ++ [.outcome .ok], fb := f }
    (s.mode = .rf → s.inputs = (rfFrame f).map Input.byte ++ rest →
      ∃ t, exec (decodeTag (byteAt f 2)) { c with dsOut := [], dsPos := 0, dsAmbiguous := false } = .next t ∧
        run (rfFrame f).length s = .next t) ∧
    (s.mode = .rs422 → s.acc = [] → s.inputs = (rsFrame f).map Input.byte ++ rest →
      ∃ t, exec (decodeTag (byteAt f 2)) c = .next t ∧ run (rsFrame f).length s = .next t)

/-- R89, R71, R124. The frame MKFRAME builds is valid: 284 bytes, both sentinels, a matching checksum. -/
def Obligations.MadeFramesAreValid : Prop :=
  ∀ (tag : Byte) (d : List Byte) (r1 r2 : Byte), d.length = 277 → ValidFrame (mkFrame tag d r1 r2)

/-- R153. In mode RF a byte outside a frame that is not the start sentinel leaves no trace, and the start sentinel starts a fresh
frame whatever came before. -/
def Obligations.RfResynchronises : Prop :=
  ∀ (s : State) (b : Byte) (rest : List Input),
    Listening s → s.mode = .rf → s.bypass = .framed → s.inputs = .byte b :: rest →
    (b = 0xCA → step s = .next { s with inputs := rest, acc := [0xCA], inside := true, accOver := false }) ∧
    (b ≠ 0xCA → s.inside = false → step s = .next { s with inputs := rest })

/-! ### Status and hemisphere bytes -/

/-- R187. Each status token gives its enumerator to the next rail; an unknown one keeps its raw byte. -/
def Obligations.StatusTokenEffects : Prop :=
  ∀ (s : State) (x : Byte),
    exec .statOff s = .next { s with pduStatuses := s.pduStatuses ++ [.off] } ∧
    exec .statReady s = .next { s with pduStatuses := s.pduStatuses ++ [.ready] } ∧
    exec .statOverVoltage s = .next { s with pduStatuses := s.pduStatuses ++ [.overVoltage] } ∧
    exec .statOverCurrent s = .next { s with pduStatuses := s.pduStatuses ++ [.overCurrent] } ∧
    exec .statOn s = .next { s with pduStatuses := s.pduStatuses ++ [.on] } ∧
    exec (.statUnknown x) s = .next { s with pduStatuses := s.pduStatuses ++ [.unknown x] } ∧
    exec (decodeStatus x) s = .next { s with pduStatuses := s.pduStatuses ++ [statusOf x] }

/-- R200. 'S' flips the sign bit of the latitude, 'W' of the longitude, any other byte of neither; NONFINITE has no sign. -/
def Obligations.HemisphereTokenEffects : Prop :=
  ∀ (s : State) (c : Coordinate) (h : Byte) (x : F64),
    (s.latitude = .finite x → exec .hemiLatS s = .next { s with latitude := .finite (x ^^^ 0x8000000000000000#64) }) ∧
    (s.latitude = .nonfinite → exec .hemiLatS s = .next s) ∧
    (s.longitude = .finite x → exec .hemiLonW s = .next { s with longitude := .finite (x ^^^ 0x8000000000000000#64) }) ∧
    (s.longitude = .nonfinite → exec .hemiLonW s = .next s) ∧
    exec (.hemiOther c h) s = .next s

/-! ### Telemetry -/

/-- R181, R182, R188 to R197, R202. FT_TELEMETRY on a frame of at least 160 bytes (every Ok frame has 284) emits one TELEMETRY
event with every field of the table at its offset and the GPS fix, and changes nothing else but what lives inside the step. The
values its registers have afterwards are the model's (log entry 9), and so are the coordinates whose intermediate results
overflow (log entry 13). -/
def Obligations.TelemetryEmitsExactRecord : Prop :=
  ∀ s : State, 160 ≤ s.fb.length →
    exec .ftTelemetry s = .next { s with
      events := s.events ++ [.telemetry (recordAt s.fb) (some (fixAt s.fb))]
      fb := [], pduStatuses := [], latitude := .finite 0, longitude := .finite 0 }

/-- R195, R51. What a telemetry or image token does on a frame buffer shorter than a frame, which no Ok frame is: no GPS fix below
160 bytes; the refused mark and nothing else where a read lies past the end. These lengths are the model's (log entry 11), and so
are the registers' values after the record (log entry 9). -/
def Obligations.ShortFrameBuffers : Prop :=
  ∀ s : State,
    (136 ≤ s.fb.length → s.fb.length < 160 → exec .ftTelemetry s = .next { s with
      events := s.events ++ [.telemetry (recordAt s.fb) none]
      fb := [], pduStatuses := [], latitude := .finite 0, longitude := .finite 0 }) ∧
    (s.fb.length < 136 → exec .ftTelemetry s = .next { s with refused := true }) ∧
    (s.fb.length < 281 →
      exec .ftImgFirst s = .next { s with refused := true } ∧ exec .ftImgLast s = .next { s with refused := true } ∧
      ∀ t, exec (.ftImgMid t) s = .next { s with refused := true })

/-- R85. The reserved, unassigned, sentinel, tag and trailer bytes of a telemetry frame leave no trace in its record. -/
def Obligations.TelemetryIgnoresUnassignedBytes : Prop :=
  ∀ (s : State) (f g : List Byte), f.length = 284 → g.length = 284 →
    (∀ o, 3 ≤ o → o ≤ 158 → o ≠ 8 → o ≠ 136 → f[o]? = g[o]?) →
      exec .ftTelemetry { s with fb := f } = exec .ftTelemetry { s with fb := g }

/-- R184. A reading is FAIL exactly where its row has the fail rule and the raw value is one of the two sentinels. -/
def Obligations.FailMarkerExactly : Prop :=
  ∀ (scale : Scale) (fail : Bool) (v : Int),
    (readingOf scale fail v = .fail ↔ fail = true ∧ (v = -32768 ∨ v = 32767)) ∧
    (readingOf scale fail v ≠ .fail → readingOf scale fail v = .val v scale)

/-- R188, R54. The table has 88 rows, one per field; the fields lie in offsets 3..158 and no two of them share a byte; and each
reader reads its field at the offset the table gives. -/
def Obligations.TelemetryFieldsDisjoint : Prop :=
  lut.length = 88 ∧ (lut.map FieldRow.id).Nodup ∧
  (∀ r ∈ lut, 3 ≤ r.off ∧ r.off + r.width ≤ 159) ∧
  (lut.Pairwise fun r q => r.off + r.width ≤ q.off ∨ q.off + q.width ≤ r.off) ∧
  ∀ m : Memory, 160 ≤ m.length → ∃ f g, readFields m = some f ∧ readGps m = some g ∧
    f.time = ⟨byteAt m (offsetOf .sec), byteAt m (offsetOf .min), byteAt m (offsetOf .hour), byteAt m (offsetOf .day),
      byteAt m (offsetOf .month)⟩ ∧
    f.iou = ((List.range 15).map fun i => readingAt m (offsetOf (.iou i)) (iouRow i).scale (iouRow i).fail) ∧
    f.rgbw = [byteAt m (offsetOf .rgbwR), byteAt m (offsetOf .rgbwG), byteAt m (offsetOf .rgbwB), byteAt m (offsetOf .rgbwW)] ∧
    f.ir = byteAt m (offsetOf .ir) ∧
    f.inert = ((List.range 7).map fun j => readingAt m (offsetOf (.inert j)) (inertRow j).scale (inertRow j).fail) ∧
    f.statusBytes = ((List.range 18).map fun k => byteAt m (offsetOf (.pduStatus k))) ∧
    f.pduValues =
      ((List.range 18).map fun k => readingAt m (offsetOf (.pduValue k)) (pduValueRow k).scale (pduValueRow k).fail) ∧
    f.pmu = ((List.range 12).map fun i => readingAt m (offsetOf (.pmu i)) (pmuRow i).scale (pmuRow i).fail) ∧
    g = ⟨byteAt m (offsetOf .gpsHH), byteAt m (offsetOf .gpsMM), byteAt m (offsetOf .gpsSS), byteAt m (offsetOf .gpsHS),
      f64At m (offsetOf .lat), byteAt m (offsetOf .latHemi), f64At m (offsetOf .lon), byteAt m (offsetOf .lonHemi)⟩

/-- R198. The worked latitude of the source, 1025.123456 (pattern 4090047E6B3FE9FB): 10 degrees, 25.123456000000033 minutes, the
pattern 4024D66306EEBFF5 with 'N', and the same with its sign flipped with 'S'. -/
def Obligations.LatitudeWorkedExample : Prop :=
  coordDegrees 0x4090047E6B3FE9FB#64 = 0x4024000000000000#64 ∧
  coordMinutes 0x4090047E6B3FE9FB#64 = 0x40391F9ACFFA7EC0#64 ∧
  coordOf 0x4090047E6B3FE9FB#64 0x4E 0x53 = .finite 0x4024D66306EEBFF5#64 ∧
  coordOf 0x4090047E6B3FE9FB#64 0x53 0x53 = .finite 0xC024D66306EEBFF5#64

/-- R197, fl(·): f64Round of either sign gives n/d rounded once, to nearest, the even pattern on a tie (D15), with the sign asked
for; from half a last place above the largest finite number on, the infinity (general knowledge, log entry 13). -/
def Obligations.RoundingIsNearestEven : Prop :=
  ∀ (neg : Bool) (n d : Nat), 0 < d →
    f64Sign (f64Round neg n d) = neg ∧ RoundsTo (f64Round neg n d) (if neg = true then -(n : Int) else n) d

/-- R197. Every operation of the conversion on finite numbers is the exact operation rounded once; floor and negation are exact. The
signs of zeros and the infinities are general knowledge of IEEE-754 (log entry 13). -/
def Obligations.ArithmeticRoundsExactResult : Prop :=
  ∀ x y : F64, f64IsFinite x = true → f64IsFinite y = true →
    (∀ d, 0 < d → RoundsTo (f64DivNat x d) (f64Units x) d ∧ f64Sign (f64DivNat x d) = f64Sign x) ∧
    (∀ m, RoundsTo (f64MulNat m x) (f64Units x * m) 1 ∧ f64Sign (f64MulNat m x) = f64Sign x) ∧
    RoundsTo (f64Add x y) (f64Units x + f64Units y) 1 ∧
    RoundsTo (f64Sub x y) (f64Units x - f64Units y) 1 ∧
    (f64Units x + f64Units y = 0 →
      f64Add x y = if f64Sign x = true ∧ f64Sign y = true then 0x8000000000000000#64 else 0) ∧
    (f64IsFinite (f64Floor x) = true ∧ f64Units (f64Floor x) = f64Units x / 2 ^ 1074 * 2 ^ 1074) ∧
    (f64IsFinite (f64Neg x) = true ∧ f64Units (f64Neg x) = -f64Units x)

/-- PMU_ORDER_8_11 is one of the orders of the four quantities that nthOrder numbers 0 to 23, each of those is an order of the four,
and every order is one of them, so the parameter ranges over all that D32 leaves OPEN (log entry 4; nothing in the machine reads
it). -/
def Obligations.PmuOrderReachesEveryOrder : Prop :=
  let four : List PmuQuantity := [.inputVoltage, .inputCurrent, .outputVoltage, .outputCurrent]
  (∀ l : List PmuQuantity, l.Perm four ↔ ∃ n, n < 24 ∧ nthOrder 4 n four = l) ∧
  ∃ n, n < 24 ∧ pmuOrder = nthOrder 4 n four

/-! ### Images -/

/-- R231. FT_IMG_FIRST always starts an assembly with the chunk's slice and never delivers. -/
def Obligations.FirstChunkRestartsAssembly : Prop :=
  ∀ s : State, 281 ≤ s.fb.length →
    exec .ftImgFirst s = .next { s with
      imgOpen := true, imgCount := 1, imgBuf := (s.fb.drop 3).take 278, fb := [] }

/-- R232. FT_IMG_LAST appends the slice to the open assembly, or to none, and always delivers it. -/
def Obligations.LastChunkDelivers : Prop :=
  ∀ s : State, 281 ≤ s.fb.length →
    exec .ftImgLast s = .next { s with
      events := s.events ++ [.image ((if s.imgOpen = true then s.imgBuf else []) ++ (s.fb.drop 3).take 278)]
      cntImages := s.cntImages + 1, imgOpen := false, imgCount := 0, imgBuf := [], fb := [] }

/-- R233. FT_IMG_MID appends the slice, opening an assembly where none is open, and delivers exactly at the 27th chunk. -/
def Obligations.MiddleChunkDeliversAt27 : Prop :=
  ∀ (s : State) (t : Byte), 281 ≤ s.fb.length → t ≠ 0x00 → t ≠ 0x1A → t ≠ 0xFF →
    let n := (if s.imgOpen = true then s.imgCount else 0) + 1
    let buf := (if s.imgOpen = true then s.imgBuf else []) ++ (s.fb.drop 3).take 278
    (n ≠ 27 → exec (.ftImgMid t) s = .next { s with imgOpen := true, imgCount := n, imgBuf := buf, fb := [] }) ∧
    (n = 27 → exec (.ftImgMid t) s = .next { s with
      events := s.events ++ [.image buf], cntImages := s.cntImages + 1
      imgOpen := false, imgCount := 0, imgBuf := [], fb := [] })

/-- R240. Every image a step delivers has length 278 × k for some k in 1..27. -/
def Obligations.DeliveredImageSizes : Prop :=
  ∀ s t : State, s.unitToken = none → FramerImageInv s → step s = .next t → ∀ buf, .image buf ∈ t.events →
    .image buf ∈ s.events ∨ ∃ k, 1 ≤ k ∧ k ≤ 27 ∧ buf.length = 278 * k

/-- R149, R238. The assembly changes only in a step that reports OUTCOME(Ok): no failed frame, command, signal or bypass byte
opens, extends or closes it. -/
def Obligations.AssemblyChangesOnlyOnOkFrame : Prop :=
  ∀ s t : State, s.unitToken = none → step s = .next t →
    (t.imgOpen = s.imgOpen ∧ t.imgCount = s.imgCount ∧ t.imgBuf = s.imgBuf) ∨
    ∃ es, t.events = s.events ++ .outcome .ok :: es

/-! ### Commands and the transport error -/

/-- R271, R272. A mode or bypass write sets its element and discards the accumulation, whatever the value was. -/
def Obligations.ModeAndBypassWrites : Prop :=
  ∀ (s : State) (m : Mode) (p : Bypass),
    exec (.cmdSetMode m) s = .next { s with mode := m, acc := [], inside := false, accOver := false } ∧
    exec (.cmdSetBypass p) s = .next { s with bypass := p, acc := [], inside := false, accOver := false }

/-- R273. All four counters are zeroed in one step and nothing else changes. -/
def Obligations.CounterResetZeroesAll : Prop :=
  ∀ s : State, exec .cmdResetCounters s = .next { s with cntFrames := 0, cntImages := 0, cntLenFail := 0, cntCrcFail := 0 }

/-- R274, R275. CMD_STOP stops without an event; the transport error is surfaced as an event and faults the block. -/
def Obligations.StopAndTransportError : Prop :=
  ∀ s : State,
    exec .cmdStop s = .next { s with run := .stopped } ∧
    exec .srcTransportError s = .next { s with run := .faulted, events := s.events ++ [.transportError] }

/-- R276. An illegal command word sets the refused mark and changes nothing else, and no step takes the mark away. -/
def Obligations.IllegalWordMarksRefused : Prop :=
  (∀ (s : State) (w : Byte), exec (.cmdIllegal w) s = .next { s with refused := true }) ∧
  (∀ s t : State, s.refused = true → step s = .next t → t.refused = true)

/-- R276, D47. A refused run satisfies no claim. From any state, a run that starts refused, or in which a listening block takes an
illegal command word, shows nothing however long it goes on; so the run of an input sequence in which such a word is taken satisfies
no claim, and one that is not refused satisfies exactly the claims its final event list and status view do (log entry 17). -/
def Obligations.RefusedRunSatisfiesNoClaim : Prop :=
  (∀ (n : Nat) (s t : State), s.refused = true → run n s = .next t → observation t = none) ∧
  (∀ (n k : Nat) (s t u : State) (w : Byte) (rest : List Input), run k s = .next u → k < n → Listening u →
    u.inputs = .cmd w :: rest → w ∉ legalCommandWords → run n s = .next t → observation t = none) ∧
  ∀ (claim : List Event → StatusView → Prop) (xs : List Input),
    (∀ (k : Nat) (u : State) (w : Byte) (rest : List Input), run k (present xs State.reset) = .next u → Listening u →
      u.inputs = .cmd w :: rest → w ∉ legalCommandWords → ¬ RunSatisfies claim xs) ∧
    (∀ t : State, runFromReset xs = .next t → t.refused = false → (RunSatisfies claim xs ↔ claim t.events (statusView t)))

/-- R281. A run is an input sequence presented from reset. It takes one input a step, so it shows nothing before its last input; it
has ended in the state in which every input has been taken, and that state stays (the last clause is the model's, log entry 6). -/
def Obligations.RunEndsWhenInputsTaken : Prop :=
  ∀ xs : List Input,
    (∀ k, k < xs.length → ∃ u, run k (present xs State.reset) = .next u ∧ u.inputs = xs.drop k ∧ observation u = none) ∧
    ∃ t, runFromReset xs = .next t ∧ t.inputs = [] ∧
      (observation t = if t.refused = true then none else some (t.events, statusView t)) ∧
      ∀ k, run (xs.length + k) (present xs State.reset) = .next t

/-! ### Reset, counters, events, invariants -/

/-- R330. Reset leaves the values of the table; the mode is RESET_MODE. -/
def Obligations.ResetLeavesStatedValues : Prop :=
  let r := State.reset
  r.mode = Config.resetMode ∧ r.bypass = .framed ∧ r.run = .running ∧ r.acc = [] ∧ r.inside = false ∧ r.accOver = false ∧
  r.imgOpen = false ∧ r.imgCount = 0 ∧ r.imgBuf = [] ∧ r.cntFrames = 0 ∧ r.cntImages = 0 ∧ r.cntLenFail = 0 ∧
  r.cntCrcFail = 0 ∧ r.events = [] ∧ r.refused = false

/-- R33. The status view's registers 0 to 6, and no other. -/
def Obligations.StatusViewRegisters : Prop :=
  ∀ s : State,
    statusRegister (statusView s) 0 = some (if s.mode = .rf then 0 else 1) ∧
    statusRegister (statusView s) 1 = some (if s.bypass = .framed then 0 else 1) ∧
    statusRegister (statusView s) 2 = some (if s.run = .running then 0 else if s.run = .stopped then 1 else 2) ∧
    statusRegister (statusView s) 3 = some s.cntFrames.toNat ∧
    statusRegister (statusView s) 4 = some s.cntImages.toNat ∧
    statusRegister (statusView s) 5 = some s.cntLenFail.toNat ∧
    statusRegister (statusView s) 6 = some s.cntCrcFail.toNat ∧
    ∀ n, 7 ≤ n → statusRegister (statusView s) n = none

/-- R250, R251, R253. Over any run without a counter reset every counter has grown by the number of its events, and the frames are
the Ok, LengthInvalid and ChecksumInvalid outcomes together (modulo 2^32). A refused run satisfies no claim (R276), so the run is
one that is not refused. -/
def Obligations.CountersCountEvents : Prop :=
  ∀ (n : Nat) (s t : State), s.unitToken = none → .cmd 0x30 ∉ s.inputs → run n s = .next t →
    t.refused = false → ∃ es, t.events = s.events ++ es ∧
      t.cntFrames = s.cntFrames + tally isOutcome es ∧
      t.cntImages = s.cntImages + tally isImage es ∧
      t.cntLenFail = s.cntLenFail + tally (· == .outcome .lengthInvalid) es ∧
      t.cntCrcFail = s.cntCrcFail + tally (· == .outcome .checksumInvalid) es ∧
      tally isOutcome es = tally (· == .outcome .ok) es + tally (· == .outcome .lengthInvalid) es
        + tally (· == .outcome .checksumInvalid) es

/-- From R36, R254, R255, R257 and R275. A step appends at most two events to the list and never changes the older ones: nothing;
OUTCOME first, then at most one TELEMETRY or IMAGE and only after OUTCOME(Ok); one RAW; or one TRANSPORT_ERROR. Which step emits
is stated with the tokens. -/
def Obligations.StepEmitsOrderedEvents : Prop :=
  ∀ s t : State, s.unitToken = none → step s = .next t → ∃ es, StepEvents es ∧ t.events = s.events ++ es

/-- R279. No stream byte changes the mode, the bypass, the run state or the refused mark. -/
def Obligations.NoInBandControl : Prop :=
  ∀ (s t : State) (b : Byte) (rest : List Input), s.unitToken = none → s.inputs = .byte b :: rest → step s = .next t →
    t.mode = s.mode ∧ t.bypass = s.bypass ∧ t.run = s.run ∧ t.refused = s.refused

/-- R37. Every step of a block whose sub-unit latch is empty (EveryStepAnswersNext: it stays so) keeps the invariant. -/
def Obligations.StepKeepsInvariant : Prop :=
  ∀ s t : State, s.unitToken = none → FramerImageInv s → step s = .next t → FramerImageInv t

/-- R37 at reset, with the accumulation in bounds; and the units idle, whose registers and latch have values at reset that are the
model's choice (log entries 7 and 9). -/
def Obligations.ResetMeetsInvariants : Prop :=
  FramerImageInv State.reset ∧ AccInBounds State.reset ∧ UnitsIdle State.reset

/-- R35. Nothing that lives inside a step is retained after it, and no step fills the sub-unit latch (log entries 7 and 9). -/
def Obligations.StepKeepsUnitsIdle : Prop :=
  ∀ s t : State, UnitsIdle s → step s = .next t → UnitsIdle t

/-- R50, R145. The accumulation never leaves its address space. -/
def Obligations.StepKeepsAccInBounds : Prop :=
  ∀ s t : State, s.unitToken = none → FramerImageInv s → AccInBounds s → step s = .next t → AccInBounds t

/-- R155. The framer reads neither the image state nor the counters nor the events: two states that differ only there step to
states that differ only there again, and the two steps report the same outcomes. -/
def Obligations.FramerReadsOnlyItsState : Prop :=
  ∀ (s t t' : State) (io : Bool) (ic : Nat) (ib : List Byte) (cf ci cl cc : Counter) (ev : List Event),
    s.unitToken = none →
    let s' : State := { s with
      imgOpen := io, imgCount := ic, imgBuf := ib, cntFrames := cf, cntImages := ci, cntLenFail := cl, cntCrcFail := cc
      events := ev }
    step s = .next t → step s' = .next t' →
      t' = { t with
        imgOpen := t'.imgOpen, imgCount := t'.imgCount, imgBuf := t'.imgBuf, cntFrames := t'.cntFrames
        cntImages := t'.cntImages, cntLenFail := t'.cntLenFail, cntCrcFail := t'.cntCrcFail, events := t'.events } ∧
      ∃ es es', t.events = s.events ++ es ∧ t'.events = ev ++ es' ∧ es.filter isOutcome = es'.filter isOutcome

/-- R65. How a byte sequence was split into chunks is not visible: inputs presented at once run as the first chunk and then
the second. -/
def Obligations.ChunkBoundariesInvisible : Prop :=
  ∀ (s t : State) (xs ys : List Input), s.unitToken = none → run xs.length { s with inputs := xs } = .next t →
    run (xs.length + ys.length) { s with inputs := xs ++ ys } = run ys.length { t with inputs := ys }

/-! ### Encoding -/

/-- R87. Decoding the encoding of a well-formed token gives it back, with the bytes after it; only DS_ESC_TRUNC has none after
it. -/
def Obligations.DecodeOfEncode : Prop :=
  ∀ (i : Instr) (rest : List Byte), i.wellFormed = true → (i = .dsEscTrunc → rest = []) →
    decode (contextOf i) (encode i ++ rest) = .ok (i, rest)

/-- R87. What the decoder reads is well-formed, belongs to the context, and its encoding is the bytes taken. -/
def Obligations.EncodeOfDecode : Prop :=
  ∀ (c : TokenContext) (bs rest : List Byte) (i : Instr), decode c bs = .ok (i, rest) →
    i.wellFormed = true ∧ contextOf i = c ∧ encode i ++ rest = bs

/-- R74, R76 to R78, R82. Words of the tables decode to their tokens. -/
def Obligations.TableWordsDecode : Prop :=
  decode .streamRf [0xCA] = .ok (.rfStart, []) ∧ decode .streamRf [0xEF] = .ok (.rfEnd, []) ∧
  decode .streamRs422 [0xCA] = .ok (.rsData 0xCA, []) ∧ decode .streamRaw [0xEF] = .ok (.rawBypass 0xEF, []) ∧
  decode .destuff [0xBD, 0xDC] = .ok (.dsEscCA, []) ∧ decode .destuff [0xBD, 0xDE] = .ok (.dsEscEF, []) ∧
  decode .destuff [0xBD, 0xDB, 0xDC] = .ok (.dsEscBD, [0xDC]) ∧ decode .destuff [0xBD] = .ok (.dsEscTrunc, []) ∧
  decode .tag [0xFF] = .ok (.ftTelemetry, []) ∧ decode .tag [0x1A] = .ok (.ftImgLast, []) ∧
  decode .status [3] = .ok (.statOverCurrent, []) ∧ decode .latHemisphere [0x53] = .ok (.hemiLatS, []) ∧
  decode .lonHemisphere [0x53] = .ok (.hemiOther .longitude 0x53, []) ∧
  decode .command [0x11] = .ok (.cmdSetMode .rs422, []) ∧ decode .command [0x31] = .ok (.cmdIllegal 0x31, [])
end

