-- ==== Sys2Proof/Laws/State.lean ====
section
/-! SUPPORT. One lemma per field per update: what each named operation leaves in each field. Each is true by rfl. -/

namespace Sys2Proof.Machine

section
variable (s : State)

@[simp] theorem beginFrame_mode : (beginFrame s).mode = s.mode := rfl
@[simp] theorem beginFrame_bypass : (beginFrame s).bypass = s.bypass := rfl
@[simp] theorem beginFrame_run : (beginFrame s).run = s.run := rfl
@[simp] theorem beginFrame_acc : (beginFrame s).acc = [sentStart] := rfl
@[simp] theorem beginFrame_inside : (beginFrame s).inside = true := rfl
@[simp] theorem beginFrame_accOver : (beginFrame s).accOver = false := rfl
@[simp] theorem beginFrame_imgOpen : (beginFrame s).imgOpen = s.imgOpen := rfl
@[simp] theorem beginFrame_imgCount : (beginFrame s).imgCount = s.imgCount := rfl
@[simp] theorem beginFrame_imgBuf : (beginFrame s).imgBuf = s.imgBuf := rfl
@[simp] theorem beginFrame_cntFrames : (beginFrame s).cntFrames = s.cntFrames := rfl
@[simp] theorem beginFrame_cntImages : (beginFrame s).cntImages = s.cntImages := rfl
@[simp] theorem beginFrame_cntLenFail : (beginFrame s).cntLenFail = s.cntLenFail := rfl
@[simp] theorem beginFrame_cntCrcFail : (beginFrame s).cntCrcFail = s.cntCrcFail := rfl
@[simp] theorem beginFrame_events : (beginFrame s).events = s.events := rfl
@[simp] theorem beginFrame_refused : (beginFrame s).refused = s.refused := rfl
@[simp] theorem beginFrame_fb : (beginFrame s).fb = s.fb := rfl
@[simp] theorem beginFrame_dsOut : (beginFrame s).dsOut = s.dsOut := rfl
@[simp] theorem beginFrame_dsPos : (beginFrame s).dsPos = s.dsPos := rfl
@[simp] theorem beginFrame_dsAmbiguous : (beginFrame s).dsAmbiguous = s.dsAmbiguous := rfl
@[simp] theorem beginFrame_pduStatuses : (beginFrame s).pduStatuses = s.pduStatuses := rfl
@[simp] theorem beginFrame_latitude : (beginFrame s).latitude = s.latitude := rfl
@[simp] theorem beginFrame_longitude : (beginFrame s).longitude = s.longitude := rfl
@[simp] theorem beginFrame_inputs : (beginFrame s).inputs = s.inputs := rfl
@[simp] theorem beginFrame_unitToken : (beginFrame s).unitToken = s.unitToken := rfl

@[simp] theorem clearFramer_mode : (clearFramer s).mode = s.mode := rfl
@[simp] theorem clearFramer_bypass : (clearFramer s).bypass = s.bypass := rfl
@[simp] theorem clearFramer_run : (clearFramer s).run = s.run := rfl
@[simp] theorem clearFramer_acc : (clearFramer s).acc = [] := rfl
@[simp] theorem clearFramer_inside : (clearFramer s).inside = false := rfl
@[simp] theorem clearFramer_accOver : (clearFramer s).accOver = false := rfl
@[simp] theorem clearFramer_imgOpen : (clearFramer s).imgOpen = s.imgOpen := rfl
@[simp] theorem clearFramer_imgCount : (clearFramer s).imgCount = s.imgCount := rfl
@[simp] theorem clearFramer_imgBuf : (clearFramer s).imgBuf = s.imgBuf := rfl
@[simp] theorem clearFramer_cntFrames : (clearFramer s).cntFrames = s.cntFrames := rfl
@[simp] theorem clearFramer_cntImages : (clearFramer s).cntImages = s.cntImages := rfl
@[simp] theorem clearFramer_cntLenFail : (clearFramer s).cntLenFail = s.cntLenFail := rfl
@[simp] theorem clearFramer_cntCrcFail : (clearFramer s).cntCrcFail = s.cntCrcFail := rfl
@[simp] theorem clearFramer_events : (clearFramer s).events = s.events := rfl
@[simp] theorem clearFramer_refused : (clearFramer s).refused = s.refused := rfl
@[simp] theorem clearFramer_fb : (clearFramer s).fb = s.fb := rfl
@[simp] theorem clearFramer_dsOut : (clearFramer s).dsOut = s.dsOut := rfl
@[simp] theorem clearFramer_dsPos : (clearFramer s).dsPos = s.dsPos := rfl
@[simp] theorem clearFramer_dsAmbiguous : (clearFramer s).dsAmbiguous = s.dsAmbiguous := rfl
@[simp] theorem clearFramer_pduStatuses : (clearFramer s).pduStatuses = s.pduStatuses := rfl
@[simp] theorem clearFramer_latitude : (clearFramer s).latitude = s.latitude := rfl
@[simp] theorem clearFramer_longitude : (clearFramer s).longitude = s.longitude := rfl
@[simp] theorem clearFramer_inputs : (clearFramer s).inputs = s.inputs := rfl
@[simp] theorem clearFramer_unitToken : (clearFramer s).unitToken = s.unitToken := rfl

@[simp] theorem markOver_mode : (markOver s).mode = s.mode := rfl
@[simp] theorem markOver_bypass : (markOver s).bypass = s.bypass := rfl
@[simp] theorem markOver_run : (markOver s).run = s.run := rfl
@[simp] theorem markOver_acc : (markOver s).acc = s.acc := rfl
@[simp] theorem markOver_inside : (markOver s).inside = s.inside := rfl
@[simp] theorem markOver_accOver : (markOver s).accOver = true := rfl
@[simp] theorem markOver_imgOpen : (markOver s).imgOpen = s.imgOpen := rfl
@[simp] theorem markOver_imgCount : (markOver s).imgCount = s.imgCount := rfl
@[simp] theorem markOver_imgBuf : (markOver s).imgBuf = s.imgBuf := rfl
@[simp] theorem markOver_cntFrames : (markOver s).cntFrames = s.cntFrames := rfl
@[simp] theorem markOver_cntImages : (markOver s).cntImages = s.cntImages := rfl
@[simp] theorem markOver_cntLenFail : (markOver s).cntLenFail = s.cntLenFail := rfl
@[simp] theorem markOver_cntCrcFail : (markOver s).cntCrcFail = s.cntCrcFail := rfl
@[simp] theorem markOver_events : (markOver s).events = s.events := rfl
@[simp] theorem markOver_refused : (markOver s).refused = s.refused := rfl
@[simp] theorem markOver_fb : (markOver s).fb = s.fb := rfl
@[simp] theorem markOver_dsOut : (markOver s).dsOut = s.dsOut := rfl
@[simp] theorem markOver_dsPos : (markOver s).dsPos = s.dsPos := rfl
@[simp] theorem markOver_dsAmbiguous : (markOver s).dsAmbiguous = s.dsAmbiguous := rfl
@[simp] theorem markOver_pduStatuses : (markOver s).pduStatuses = s.pduStatuses := rfl
@[simp] theorem markOver_latitude : (markOver s).latitude = s.latitude := rfl
@[simp] theorem markOver_longitude : (markOver s).longitude = s.longitude := rfl
@[simp] theorem markOver_inputs : (markOver s).inputs = s.inputs := rfl
@[simp] theorem markOver_unitToken : (markOver s).unitToken = s.unitToken := rfl

@[simp] theorem openAssembly_mode : (openAssembly s).mode = s.mode := rfl
@[simp] theorem openAssembly_bypass : (openAssembly s).bypass = s.bypass := rfl
@[simp] theorem openAssembly_run : (openAssembly s).run = s.run := rfl
@[simp] theorem openAssembly_acc : (openAssembly s).acc = s.acc := rfl
@[simp] theorem openAssembly_inside : (openAssembly s).inside = s.inside := rfl
@[simp] theorem openAssembly_accOver : (openAssembly s).accOver = s.accOver := rfl
@[simp] theorem openAssembly_imgOpen : (openAssembly s).imgOpen = true := rfl
@[simp] theorem openAssembly_imgCount : (openAssembly s).imgCount = 0 := rfl
@[simp] theorem openAssembly_imgBuf : (openAssembly s).imgBuf = [] := rfl
@[simp] theorem openAssembly_cntFrames : (openAssembly s).cntFrames = s.cntFrames := rfl
@[simp] theorem openAssembly_cntImages : (openAssembly s).cntImages = s.cntImages := rfl
@[simp] theorem openAssembly_cntLenFail : (openAssembly s).cntLenFail = s.cntLenFail := rfl
@[simp] theorem openAssembly_cntCrcFail : (openAssembly s).cntCrcFail = s.cntCrcFail := rfl
@[simp] theorem openAssembly_events : (openAssembly s).events = s.events := rfl
@[simp] theorem openAssembly_refused : (openAssembly s).refused = s.refused := rfl
@[simp] theorem openAssembly_fb : (openAssembly s).fb = s.fb := rfl
@[simp] theorem openAssembly_dsOut : (openAssembly s).dsOut = s.dsOut := rfl
@[simp] theorem openAssembly_dsPos : (openAssembly s).dsPos = s.dsPos := rfl
@[simp] theorem openAssembly_dsAmbiguous : (openAssembly s).dsAmbiguous = s.dsAmbiguous := rfl
@[simp] theorem openAssembly_pduStatuses : (openAssembly s).pduStatuses = s.pduStatuses := rfl
@[simp] theorem openAssembly_latitude : (openAssembly s).latitude = s.latitude := rfl
@[simp] theorem openAssembly_longitude : (openAssembly s).longitude = s.longitude := rfl
@[simp] theorem openAssembly_inputs : (openAssembly s).inputs = s.inputs := rfl
@[simp] theorem openAssembly_unitToken : (openAssembly s).unitToken = s.unitToken := rfl

@[simp] theorem closeAssembly_mode : (closeAssembly s).mode = s.mode := rfl
@[simp] theorem closeAssembly_bypass : (closeAssembly s).bypass = s.bypass := rfl
@[simp] theorem closeAssembly_run : (closeAssembly s).run = s.run := rfl
@[simp] theorem closeAssembly_acc : (closeAssembly s).acc = s.acc := rfl
@[simp] theorem closeAssembly_inside : (closeAssembly s).inside = s.inside := rfl
@[simp] theorem closeAssembly_accOver : (closeAssembly s).accOver = s.accOver := rfl
@[simp] theorem closeAssembly_imgOpen : (closeAssembly s).imgOpen = false := rfl
@[simp] theorem closeAssembly_imgCount : (closeAssembly s).imgCount = 0 := rfl
@[simp] theorem closeAssembly_imgBuf : (closeAssembly s).imgBuf = [] := rfl
@[simp] theorem closeAssembly_cntFrames : (closeAssembly s).cntFrames = s.cntFrames := rfl
@[simp] theorem closeAssembly_cntImages : (closeAssembly s).cntImages = s.cntImages := rfl
@[simp] theorem closeAssembly_cntLenFail : (closeAssembly s).cntLenFail = s.cntLenFail := rfl
@[simp] theorem closeAssembly_cntCrcFail : (closeAssembly s).cntCrcFail = s.cntCrcFail := rfl
@[simp] theorem closeAssembly_events : (closeAssembly s).events = s.events := rfl
@[simp] theorem closeAssembly_refused : (closeAssembly s).refused = s.refused := rfl
@[simp] theorem closeAssembly_fb : (closeAssembly s).fb = s.fb := rfl
@[simp] theorem closeAssembly_dsOut : (closeAssembly s).dsOut = s.dsOut := rfl
@[simp] theorem closeAssembly_dsPos : (closeAssembly s).dsPos = s.dsPos := rfl
@[simp] theorem closeAssembly_dsAmbiguous : (closeAssembly s).dsAmbiguous = s.dsAmbiguous := rfl
@[simp] theorem closeAssembly_pduStatuses : (closeAssembly s).pduStatuses = s.pduStatuses := rfl
@[simp] theorem closeAssembly_latitude : (closeAssembly s).latitude = s.latitude := rfl
@[simp] theorem closeAssembly_longitude : (closeAssembly s).longitude = s.longitude := rfl
@[simp] theorem closeAssembly_inputs : (closeAssembly s).inputs = s.inputs := rfl
@[simp] theorem closeAssembly_unitToken : (closeAssembly s).unitToken = s.unitToken := rfl

@[simp] theorem setRun_mode (r : RunState) : (setRun r s).mode = s.mode := rfl
@[simp] theorem setRun_bypass (r : RunState) : (setRun r s).bypass = s.bypass := rfl
@[simp] theorem setRun_run (r : RunState) : (setRun r s).run = r := rfl
@[simp] theorem setRun_acc (r : RunState) : (setRun r s).acc = s.acc := rfl
@[simp] theorem setRun_inside (r : RunState) : (setRun r s).inside = s.inside := rfl
@[simp] theorem setRun_accOver (r : RunState) : (setRun r s).accOver = s.accOver := rfl
@[simp] theorem setRun_imgOpen (r : RunState) : (setRun r s).imgOpen = s.imgOpen := rfl
@[simp] theorem setRun_imgCount (r : RunState) : (setRun r s).imgCount = s.imgCount := rfl
@[simp] theorem setRun_imgBuf (r : RunState) : (setRun r s).imgBuf = s.imgBuf := rfl
@[simp] theorem setRun_cntFrames (r : RunState) : (setRun r s).cntFrames = s.cntFrames := rfl
@[simp] theorem setRun_cntImages (r : RunState) : (setRun r s).cntImages = s.cntImages := rfl
@[simp] theorem setRun_cntLenFail (r : RunState) : (setRun r s).cntLenFail = s.cntLenFail := rfl
@[simp] theorem setRun_cntCrcFail (r : RunState) : (setRun r s).cntCrcFail = s.cntCrcFail := rfl
@[simp] theorem setRun_events (r : RunState) : (setRun r s).events = s.events := rfl
@[simp] theorem setRun_refused (r : RunState) : (setRun r s).refused = s.refused := rfl
@[simp] theorem setRun_fb (r : RunState) : (setRun r s).fb = s.fb := rfl
@[simp] theorem setRun_dsOut (r : RunState) : (setRun r s).dsOut = s.dsOut := rfl
@[simp] theorem setRun_dsPos (r : RunState) : (setRun r s).dsPos = s.dsPos := rfl
@[simp] theorem setRun_dsAmbiguous (r : RunState) : (setRun r s).dsAmbiguous = s.dsAmbiguous := rfl
@[simp] theorem setRun_pduStatuses (r : RunState) : (setRun r s).pduStatuses = s.pduStatuses := rfl
@[simp] theorem setRun_latitude (r : RunState) : (setRun r s).latitude = s.latitude := rfl
@[simp] theorem setRun_longitude (r : RunState) : (setRun r s).longitude = s.longitude := rfl
@[simp] theorem setRun_inputs (r : RunState) : (setRun r s).inputs = s.inputs := rfl
@[simp] theorem setRun_unitToken (r : RunState) : (setRun r s).unitToken = s.unitToken := rfl

@[simp] theorem refuse_mode : (refuse s).mode = s.mode := rfl
@[simp] theorem refuse_bypass : (refuse s).bypass = s.bypass := rfl
@[simp] theorem refuse_run : (refuse s).run = s.run := rfl
@[simp] theorem refuse_acc : (refuse s).acc = s.acc := rfl
@[simp] theorem refuse_inside : (refuse s).inside = s.inside := rfl
@[simp] theorem refuse_accOver : (refuse s).accOver = s.accOver := rfl
@[simp] theorem refuse_imgOpen : (refuse s).imgOpen = s.imgOpen := rfl
@[simp] theorem refuse_imgCount : (refuse s).imgCount = s.imgCount := rfl
@[simp] theorem refuse_imgBuf : (refuse s).imgBuf = s.imgBuf := rfl
@[simp] theorem refuse_cntFrames : (refuse s).cntFrames = s.cntFrames := rfl
@[simp] theorem refuse_cntImages : (refuse s).cntImages = s.cntImages := rfl
@[simp] theorem refuse_cntLenFail : (refuse s).cntLenFail = s.cntLenFail := rfl
@[simp] theorem refuse_cntCrcFail : (refuse s).cntCrcFail = s.cntCrcFail := rfl
@[simp] theorem refuse_events : (refuse s).events = s.events := rfl
@[simp] theorem refuse_refused : (refuse s).refused = true := rfl
@[simp] theorem refuse_fb : (refuse s).fb = s.fb := rfl
@[simp] theorem refuse_dsOut : (refuse s).dsOut = s.dsOut := rfl
@[simp] theorem refuse_dsPos : (refuse s).dsPos = s.dsPos := rfl
@[simp] theorem refuse_dsAmbiguous : (refuse s).dsAmbiguous = s.dsAmbiguous := rfl
@[simp] theorem refuse_pduStatuses : (refuse s).pduStatuses = s.pduStatuses := rfl
@[simp] theorem refuse_latitude : (refuse s).latitude = s.latitude := rfl
@[simp] theorem refuse_longitude : (refuse s).longitude = s.longitude := rfl
@[simp] theorem refuse_inputs : (refuse s).inputs = s.inputs := rfl
@[simp] theorem refuse_unitToken : (refuse s).unitToken = s.unitToken := rfl

@[simp] theorem appendAcc_mode (b : Byte) : (appendAcc b s).mode = s.mode := rfl
@[simp] theorem appendAcc_bypass (b : Byte) : (appendAcc b s).bypass = s.bypass := rfl
@[simp] theorem appendAcc_run (b : Byte) : (appendAcc b s).run = s.run := rfl
@[simp] theorem appendAcc_acc (b : Byte) : (appendAcc b s).acc = s.acc ++ [b] := rfl
@[simp] theorem appendAcc_inside (b : Byte) : (appendAcc b s).inside = s.inside := rfl
@[simp] theorem appendAcc_accOver (b : Byte) : (appendAcc b s).accOver = s.accOver := rfl
@[simp] theorem appendAcc_imgOpen (b : Byte) : (appendAcc b s).imgOpen = s.imgOpen := rfl
@[simp] theorem appendAcc_imgCount (b : Byte) : (appendAcc b s).imgCount = s.imgCount := rfl
@[simp] theorem appendAcc_imgBuf (b : Byte) : (appendAcc b s).imgBuf = s.imgBuf := rfl
@[simp] theorem appendAcc_cntFrames (b : Byte) : (appendAcc b s).cntFrames = s.cntFrames := rfl
@[simp] theorem appendAcc_cntImages (b : Byte) : (appendAcc b s).cntImages = s.cntImages := rfl
@[simp] theorem appendAcc_cntLenFail (b : Byte) : (appendAcc b s).cntLenFail = s.cntLenFail := rfl
@[simp] theorem appendAcc_cntCrcFail (b : Byte) : (appendAcc b s).cntCrcFail = s.cntCrcFail := rfl
@[simp] theorem appendAcc_events (b : Byte) : (appendAcc b s).events = s.events := rfl
@[simp] theorem appendAcc_refused (b : Byte) : (appendAcc b s).refused = s.refused := rfl
@[simp] theorem appendAcc_fb (b : Byte) : (appendAcc b s).fb = s.fb := rfl
@[simp] theorem appendAcc_dsOut (b : Byte) : (appendAcc b s).dsOut = s.dsOut := rfl
@[simp] theorem appendAcc_dsPos (b : Byte) : (appendAcc b s).dsPos = s.dsPos := rfl
@[simp] theorem appendAcc_dsAmbiguous (b : Byte) : (appendAcc b s).dsAmbiguous = s.dsAmbiguous := rfl
@[simp] theorem appendAcc_pduStatuses (b : Byte) : (appendAcc b s).pduStatuses = s.pduStatuses := rfl
@[simp] theorem appendAcc_latitude (b : Byte) : (appendAcc b s).latitude = s.latitude := rfl
@[simp] theorem appendAcc_longitude (b : Byte) : (appendAcc b s).longitude = s.longitude := rfl
@[simp] theorem appendAcc_inputs (b : Byte) : (appendAcc b s).inputs = s.inputs := rfl
@[simp] theorem appendAcc_unitToken (b : Byte) : (appendAcc b s).unitToken = s.unitToken := rfl

@[simp] theorem appendChunk_mode (c : List Byte) : (appendChunk c s).mode = s.mode := rfl
@[simp] theorem appendChunk_bypass (c : List Byte) : (appendChunk c s).bypass = s.bypass := rfl
@[simp] theorem appendChunk_run (c : List Byte) : (appendChunk c s).run = s.run := rfl
@[simp] theorem appendChunk_acc (c : List Byte) : (appendChunk c s).acc = s.acc := rfl
@[simp] theorem appendChunk_inside (c : List Byte) : (appendChunk c s).inside = s.inside := rfl
@[simp] theorem appendChunk_accOver (c : List Byte) : (appendChunk c s).accOver = s.accOver := rfl
@[simp] theorem appendChunk_imgOpen (c : List Byte) : (appendChunk c s).imgOpen = s.imgOpen := rfl
@[simp] theorem appendChunk_imgCount (c : List Byte) : (appendChunk c s).imgCount = s.imgCount + 1 := rfl
@[simp] theorem appendChunk_imgBuf (c : List Byte) : (appendChunk c s).imgBuf = s.imgBuf ++ c := rfl
@[simp] theorem appendChunk_cntFrames (c : List Byte) : (appendChunk c s).cntFrames = s.cntFrames := rfl
@[simp] theorem appendChunk_cntImages (c : List Byte) : (appendChunk c s).cntImages = s.cntImages := rfl
@[simp] theorem appendChunk_cntLenFail (c : List Byte) : (appendChunk c s).cntLenFail = s.cntLenFail := rfl
@[simp] theorem appendChunk_cntCrcFail (c : List Byte) : (appendChunk c s).cntCrcFail = s.cntCrcFail := rfl
@[simp] theorem appendChunk_events (c : List Byte) : (appendChunk c s).events = s.events := rfl
@[simp] theorem appendChunk_refused (c : List Byte) : (appendChunk c s).refused = s.refused := rfl
@[simp] theorem appendChunk_fb (c : List Byte) : (appendChunk c s).fb = s.fb := rfl
@[simp] theorem appendChunk_dsOut (c : List Byte) : (appendChunk c s).dsOut = s.dsOut := rfl
@[simp] theorem appendChunk_dsPos (c : List Byte) : (appendChunk c s).dsPos = s.dsPos := rfl
@[simp] theorem appendChunk_dsAmbiguous (c : List Byte) : (appendChunk c s).dsAmbiguous = s.dsAmbiguous := rfl
@[simp] theorem appendChunk_pduStatuses (c : List Byte) : (appendChunk c s).pduStatuses = s.pduStatuses := rfl
@[simp] theorem appendChunk_latitude (c : List Byte) : (appendChunk c s).latitude = s.latitude := rfl
@[simp] theorem appendChunk_longitude (c : List Byte) : (appendChunk c s).longitude = s.longitude := rfl
@[simp] theorem appendChunk_inputs (c : List Byte) : (appendChunk c s).inputs = s.inputs := rfl
@[simp] theorem appendChunk_unitToken (c : List Byte) : (appendChunk c s).unitToken = s.unitToken := rfl

@[simp] theorem loadFrame_mode (m : Memory) : (loadFrame m s).mode = s.mode := rfl
@[simp] theorem loadFrame_bypass (m : Memory) : (loadFrame m s).bypass = s.bypass := rfl
@[simp] theorem loadFrame_run (m : Memory) : (loadFrame m s).run = s.run := rfl
@[simp] theorem loadFrame_acc (m : Memory) : (loadFrame m s).acc = s.acc := rfl
@[simp] theorem loadFrame_inside (m : Memory) : (loadFrame m s).inside = s.inside := rfl
@[simp] theorem loadFrame_accOver (m : Memory) : (loadFrame m s).accOver = s.accOver := rfl
@[simp] theorem loadFrame_imgOpen (m : Memory) : (loadFrame m s).imgOpen = s.imgOpen := rfl
@[simp] theorem loadFrame_imgCount (m : Memory) : (loadFrame m s).imgCount = s.imgCount := rfl
@[simp] theorem loadFrame_imgBuf (m : Memory) : (loadFrame m s).imgBuf = s.imgBuf := rfl
@[simp] theorem loadFrame_cntFrames (m : Memory) : (loadFrame m s).cntFrames = s.cntFrames := rfl
@[simp] theorem loadFrame_cntImages (m : Memory) : (loadFrame m s).cntImages = s.cntImages := rfl
@[simp] theorem loadFrame_cntLenFail (m : Memory) : (loadFrame m s).cntLenFail = s.cntLenFail := rfl
@[simp] theorem loadFrame_cntCrcFail (m : Memory) : (loadFrame m s).cntCrcFail = s.cntCrcFail := rfl
@[simp] theorem loadFrame_events (m : Memory) : (loadFrame m s).events = s.events := rfl
@[simp] theorem loadFrame_refused (m : Memory) : (loadFrame m s).refused = s.refused := rfl
@[simp] theorem loadFrame_fb (m : Memory) : (loadFrame m s).fb = m := rfl
@[simp] theorem loadFrame_dsOut (m : Memory) : (loadFrame m s).dsOut = s.dsOut := rfl
@[simp] theorem loadFrame_dsPos (m : Memory) : (loadFrame m s).dsPos = s.dsPos := rfl
@[simp] theorem loadFrame_dsAmbiguous (m : Memory) : (loadFrame m s).dsAmbiguous = s.dsAmbiguous := rfl
@[simp] theorem loadFrame_pduStatuses (m : Memory) : (loadFrame m s).pduStatuses = s.pduStatuses := rfl
@[simp] theorem loadFrame_latitude (m : Memory) : (loadFrame m s).latitude = s.latitude := rfl
@[simp] theorem loadFrame_longitude (m : Memory) : (loadFrame m s).longitude = s.longitude := rfl
@[simp] theorem loadFrame_inputs (m : Memory) : (loadFrame m s).inputs = s.inputs := rfl
@[simp] theorem loadFrame_unitToken (m : Memory) : (loadFrame m s).unitToken = s.unitToken := rfl

@[simp] theorem consumeFrame_mode : (consumeFrame s).mode = s.mode := rfl
@[simp] theorem consumeFrame_bypass : (consumeFrame s).bypass = s.bypass := rfl
@[simp] theorem consumeFrame_run : (consumeFrame s).run = s.run := rfl
@[simp] theorem consumeFrame_acc : (consumeFrame s).acc = s.acc := rfl
@[simp] theorem consumeFrame_inside : (consumeFrame s).inside = s.inside := rfl
@[simp] theorem consumeFrame_accOver : (consumeFrame s).accOver = s.accOver := rfl
@[simp] theorem consumeFrame_imgOpen : (consumeFrame s).imgOpen = s.imgOpen := rfl
@[simp] theorem consumeFrame_imgCount : (consumeFrame s).imgCount = s.imgCount := rfl
@[simp] theorem consumeFrame_imgBuf : (consumeFrame s).imgBuf = s.imgBuf := rfl
@[simp] theorem consumeFrame_cntFrames : (consumeFrame s).cntFrames = s.cntFrames := rfl
@[simp] theorem consumeFrame_cntImages : (consumeFrame s).cntImages = s.cntImages := rfl
@[simp] theorem consumeFrame_cntLenFail : (consumeFrame s).cntLenFail = s.cntLenFail := rfl
@[simp] theorem consumeFrame_cntCrcFail : (consumeFrame s).cntCrcFail = s.cntCrcFail := rfl
@[simp] theorem consumeFrame_events : (consumeFrame s).events = s.events := rfl
@[simp] theorem consumeFrame_refused : (consumeFrame s).refused = s.refused := rfl
@[simp] theorem consumeFrame_fb : (consumeFrame s).fb = [] := rfl
@[simp] theorem consumeFrame_dsOut : (consumeFrame s).dsOut = s.dsOut := rfl
@[simp] theorem consumeFrame_dsPos : (consumeFrame s).dsPos = s.dsPos := rfl
@[simp] theorem consumeFrame_dsAmbiguous : (consumeFrame s).dsAmbiguous = s.dsAmbiguous := rfl
@[simp] theorem consumeFrame_pduStatuses : (consumeFrame s).pduStatuses = s.pduStatuses := rfl
@[simp] theorem consumeFrame_latitude : (consumeFrame s).latitude = s.latitude := rfl
@[simp] theorem consumeFrame_longitude : (consumeFrame s).longitude = s.longitude := rfl
@[simp] theorem consumeFrame_inputs : (consumeFrame s).inputs = s.inputs := rfl
@[simp] theorem consumeFrame_unitToken : (consumeFrame s).unitToken = s.unitToken := rfl

@[simp] theorem clearDestuffer_mode : (clearDestuffer s).mode = s.mode := rfl
@[simp] theorem clearDestuffer_bypass : (clearDestuffer s).bypass = s.bypass := rfl
@[simp] theorem clearDestuffer_run : (clearDestuffer s).run = s.run := rfl
@[simp] theorem clearDestuffer_acc : (clearDestuffer s).acc = s.acc := rfl
@[simp] theorem clearDestuffer_inside : (clearDestuffer s).inside = s.inside := rfl
@[simp] theorem clearDestuffer_accOver : (clearDestuffer s).accOver = s.accOver := rfl
@[simp] theorem clearDestuffer_imgOpen : (clearDestuffer s).imgOpen = s.imgOpen := rfl
@[simp] theorem clearDestuffer_imgCount : (clearDestuffer s).imgCount = s.imgCount := rfl
@[simp] theorem clearDestuffer_imgBuf : (clearDestuffer s).imgBuf = s.imgBuf := rfl
@[simp] theorem clearDestuffer_cntFrames : (clearDestuffer s).cntFrames = s.cntFrames := rfl
@[simp] theorem clearDestuffer_cntImages : (clearDestuffer s).cntImages = s.cntImages := rfl
@[simp] theorem clearDestuffer_cntLenFail : (clearDestuffer s).cntLenFail = s.cntLenFail := rfl
@[simp] theorem clearDestuffer_cntCrcFail : (clearDestuffer s).cntCrcFail = s.cntCrcFail := rfl
@[simp] theorem clearDestuffer_events : (clearDestuffer s).events = s.events := rfl
@[simp] theorem clearDestuffer_refused : (clearDestuffer s).refused = s.refused := rfl
@[simp] theorem clearDestuffer_fb : (clearDestuffer s).fb = s.fb := rfl
@[simp] theorem clearDestuffer_dsOut : (clearDestuffer s).dsOut = [] := rfl
@[simp] theorem clearDestuffer_dsPos : (clearDestuffer s).dsPos = 0 := rfl
@[simp] theorem clearDestuffer_dsAmbiguous : (clearDestuffer s).dsAmbiguous = false := rfl
@[simp] theorem clearDestuffer_pduStatuses : (clearDestuffer s).pduStatuses = s.pduStatuses := rfl
@[simp] theorem clearDestuffer_latitude : (clearDestuffer s).latitude = s.latitude := rfl
@[simp] theorem clearDestuffer_longitude : (clearDestuffer s).longitude = s.longitude := rfl
@[simp] theorem clearDestuffer_inputs : (clearDestuffer s).inputs = s.inputs := rfl
@[simp] theorem clearDestuffer_unitToken : (clearDestuffer s).unitToken = s.unitToken := rfl

@[simp] theorem destuffed_mode (b : Byte) (n : Nat) : (destuffed b n s).mode = s.mode := rfl
@[simp] theorem destuffed_bypass (b : Byte) (n : Nat) : (destuffed b n s).bypass = s.bypass := rfl
@[simp] theorem destuffed_run (b : Byte) (n : Nat) : (destuffed b n s).run = s.run := rfl
@[simp] theorem destuffed_acc (b : Byte) (n : Nat) : (destuffed b n s).acc = s.acc := rfl
@[simp] theorem destuffed_inside (b : Byte) (n : Nat) : (destuffed b n s).inside = s.inside := rfl
@[simp] theorem destuffed_accOver (b : Byte) (n : Nat) : (destuffed b n s).accOver = s.accOver := rfl
@[simp] theorem destuffed_imgOpen (b : Byte) (n : Nat) : (destuffed b n s).imgOpen = s.imgOpen := rfl
@[simp] theorem destuffed_imgCount (b : Byte) (n : Nat) : (destuffed b n s).imgCount = s.imgCount := rfl
@[simp] theorem destuffed_imgBuf (b : Byte) (n : Nat) : (destuffed b n s).imgBuf = s.imgBuf := rfl
@[simp] theorem destuffed_cntFrames (b : Byte) (n : Nat) : (destuffed b n s).cntFrames = s.cntFrames := rfl
@[simp] theorem destuffed_cntImages (b : Byte) (n : Nat) : (destuffed b n s).cntImages = s.cntImages := rfl
@[simp] theorem destuffed_cntLenFail (b : Byte) (n : Nat) : (destuffed b n s).cntLenFail = s.cntLenFail := rfl
@[simp] theorem destuffed_cntCrcFail (b : Byte) (n : Nat) : (destuffed b n s).cntCrcFail = s.cntCrcFail := rfl
@[simp] theorem destuffed_events (b : Byte) (n : Nat) : (destuffed b n s).events = s.events := rfl
@[simp] theorem destuffed_refused (b : Byte) (n : Nat) : (destuffed b n s).refused = s.refused := rfl
@[simp] theorem destuffed_fb (b : Byte) (n : Nat) : (destuffed b n s).fb = s.fb := rfl
@[simp] theorem destuffed_dsOut (b : Byte) (n : Nat) : (destuffed b n s).dsOut = s.dsOut ++ [b] := rfl
@[simp] theorem destuffed_dsPos (b : Byte) (n : Nat) : (destuffed b n s).dsPos = s.dsPos + n := rfl
@[simp] theorem destuffed_dsAmbiguous (b : Byte) (n : Nat) : (destuffed b n s).dsAmbiguous = s.dsAmbiguous := rfl
@[simp] theorem destuffed_pduStatuses (b : Byte) (n : Nat) : (destuffed b n s).pduStatuses = s.pduStatuses := rfl
@[simp] theorem destuffed_latitude (b : Byte) (n : Nat) : (destuffed b n s).latitude = s.latitude := rfl
@[simp] theorem destuffed_longitude (b : Byte) (n : Nat) : (destuffed b n s).longitude = s.longitude := rfl
@[simp] theorem destuffed_inputs (b : Byte) (n : Nat) : (destuffed b n s).inputs = s.inputs := rfl
@[simp] theorem destuffed_unitToken (b : Byte) (n : Nat) : (destuffed b n s).unitToken = s.unitToken := rfl

@[simp] theorem ambiguous_mode : (ambiguous s).mode = s.mode := rfl
@[simp] theorem ambiguous_bypass : (ambiguous s).bypass = s.bypass := rfl
@[simp] theorem ambiguous_run : (ambiguous s).run = s.run := rfl
@[simp] theorem ambiguous_acc : (ambiguous s).acc = s.acc := rfl
@[simp] theorem ambiguous_inside : (ambiguous s).inside = s.inside := rfl
@[simp] theorem ambiguous_accOver : (ambiguous s).accOver = s.accOver := rfl
@[simp] theorem ambiguous_imgOpen : (ambiguous s).imgOpen = s.imgOpen := rfl
@[simp] theorem ambiguous_imgCount : (ambiguous s).imgCount = s.imgCount := rfl
@[simp] theorem ambiguous_imgBuf : (ambiguous s).imgBuf = s.imgBuf := rfl
@[simp] theorem ambiguous_cntFrames : (ambiguous s).cntFrames = s.cntFrames := rfl
@[simp] theorem ambiguous_cntImages : (ambiguous s).cntImages = s.cntImages := rfl
@[simp] theorem ambiguous_cntLenFail : (ambiguous s).cntLenFail = s.cntLenFail := rfl
@[simp] theorem ambiguous_cntCrcFail : (ambiguous s).cntCrcFail = s.cntCrcFail := rfl
@[simp] theorem ambiguous_events : (ambiguous s).events = s.events := rfl
@[simp] theorem ambiguous_refused : (ambiguous s).refused = s.refused := rfl
@[simp] theorem ambiguous_fb : (ambiguous s).fb = s.fb := rfl
@[simp] theorem ambiguous_dsOut : (ambiguous s).dsOut = s.dsOut := rfl
@[simp] theorem ambiguous_dsPos : (ambiguous s).dsPos = s.dsPos := rfl
@[simp] theorem ambiguous_dsAmbiguous : (ambiguous s).dsAmbiguous = true := rfl
@[simp] theorem ambiguous_pduStatuses : (ambiguous s).pduStatuses = s.pduStatuses := rfl
@[simp] theorem ambiguous_latitude : (ambiguous s).latitude = s.latitude := rfl
@[simp] theorem ambiguous_longitude : (ambiguous s).longitude = s.longitude := rfl
@[simp] theorem ambiguous_inputs : (ambiguous s).inputs = s.inputs := rfl
@[simp] theorem ambiguous_unitToken : (ambiguous s).unitToken = s.unitToken := rfl

@[simp] theorem clearExtractor_mode : (clearExtractor s).mode = s.mode := rfl
@[simp] theorem clearExtractor_bypass : (clearExtractor s).bypass = s.bypass := rfl
@[simp] theorem clearExtractor_run : (clearExtractor s).run = s.run := rfl
@[simp] theorem clearExtractor_acc : (clearExtractor s).acc = s.acc := rfl
@[simp] theorem clearExtractor_inside : (clearExtractor s).inside = s.inside := rfl
@[simp] theorem clearExtractor_accOver : (clearExtractor s).accOver = s.accOver := rfl
@[simp] theorem clearExtractor_imgOpen : (clearExtractor s).imgOpen = s.imgOpen := rfl
@[simp] theorem clearExtractor_imgCount : (clearExtractor s).imgCount = s.imgCount := rfl
@[simp] theorem clearExtractor_imgBuf : (clearExtractor s).imgBuf = s.imgBuf := rfl
@[simp] theorem clearExtractor_cntFrames : (clearExtractor s).cntFrames = s.cntFrames := rfl
@[simp] theorem clearExtractor_cntImages : (clearExtractor s).cntImages = s.cntImages := rfl
@[simp] theorem clearExtractor_cntLenFail : (clearExtractor s).cntLenFail = s.cntLenFail := rfl
@[simp] theorem clearExtractor_cntCrcFail : (clearExtractor s).cntCrcFail = s.cntCrcFail := rfl
@[simp] theorem clearExtractor_events : (clearExtractor s).events = s.events := rfl
@[simp] theorem clearExtractor_refused : (clearExtractor s).refused = s.refused := rfl
@[simp] theorem clearExtractor_fb : (clearExtractor s).fb = s.fb := rfl
@[simp] theorem clearExtractor_dsOut : (clearExtractor s).dsOut = s.dsOut := rfl
@[simp] theorem clearExtractor_dsPos : (clearExtractor s).dsPos = s.dsPos := rfl
@[simp] theorem clearExtractor_dsAmbiguous : (clearExtractor s).dsAmbiguous = s.dsAmbiguous := rfl
@[simp] theorem clearExtractor_pduStatuses : (clearExtractor s).pduStatuses = [] := rfl
@[simp] theorem clearExtractor_latitude : (clearExtractor s).latitude = .finite 0 := rfl
@[simp] theorem clearExtractor_longitude : (clearExtractor s).longitude = .finite 0 := rfl
@[simp] theorem clearExtractor_inputs : (clearExtractor s).inputs = s.inputs := rfl
@[simp] theorem clearExtractor_unitToken : (clearExtractor s).unitToken = s.unitToken := rfl

@[simp] theorem pushStatus_mode (e : Status) : (pushStatus e s).mode = s.mode := rfl
@[simp] theorem pushStatus_bypass (e : Status) : (pushStatus e s).bypass = s.bypass := rfl
@[simp] theorem pushStatus_run (e : Status) : (pushStatus e s).run = s.run := rfl
@[simp] theorem pushStatus_acc (e : Status) : (pushStatus e s).acc = s.acc := rfl
@[simp] theorem pushStatus_inside (e : Status) : (pushStatus e s).inside = s.inside := rfl
@[simp] theorem pushStatus_accOver (e : Status) : (pushStatus e s).accOver = s.accOver := rfl
@[simp] theorem pushStatus_imgOpen (e : Status) : (pushStatus e s).imgOpen = s.imgOpen := rfl
@[simp] theorem pushStatus_imgCount (e : Status) : (pushStatus e s).imgCount = s.imgCount := rfl
@[simp] theorem pushStatus_imgBuf (e : Status) : (pushStatus e s).imgBuf = s.imgBuf := rfl
@[simp] theorem pushStatus_cntFrames (e : Status) : (pushStatus e s).cntFrames = s.cntFrames := rfl
@[simp] theorem pushStatus_cntImages (e : Status) : (pushStatus e s).cntImages = s.cntImages := rfl
@[simp] theorem pushStatus_cntLenFail (e : Status) : (pushStatus e s).cntLenFail = s.cntLenFail := rfl
@[simp] theorem pushStatus_cntCrcFail (e : Status) : (pushStatus e s).cntCrcFail = s.cntCrcFail := rfl
@[simp] theorem pushStatus_events (e : Status) : (pushStatus e s).events = s.events := rfl
@[simp] theorem pushStatus_refused (e : Status) : (pushStatus e s).refused = s.refused := rfl
@[simp] theorem pushStatus_fb (e : Status) : (pushStatus e s).fb = s.fb := rfl
@[simp] theorem pushStatus_dsOut (e : Status) : (pushStatus e s).dsOut = s.dsOut := rfl
@[simp] theorem pushStatus_dsPos (e : Status) : (pushStatus e s).dsPos = s.dsPos := rfl
@[simp] theorem pushStatus_dsAmbiguous (e : Status) : (pushStatus e s).dsAmbiguous = s.dsAmbiguous := rfl
@[simp] theorem pushStatus_pduStatuses (e : Status) : (pushStatus e s).pduStatuses = s.pduStatuses ++ [e] := rfl
@[simp] theorem pushStatus_latitude (e : Status) : (pushStatus e s).latitude = s.latitude := rfl
@[simp] theorem pushStatus_longitude (e : Status) : (pushStatus e s).longitude = s.longitude := rfl
@[simp] theorem pushStatus_inputs (e : Status) : (pushStatus e s).inputs = s.inputs := rfl
@[simp] theorem pushStatus_unitToken (e : Status) : (pushStatus e s).unitToken = s.unitToken := rfl

@[simp] theorem emit_mode (e : Event) : (emit e s).mode = s.mode := rfl
@[simp] theorem emit_bypass (e : Event) : (emit e s).bypass = s.bypass := rfl
@[simp] theorem emit_run (e : Event) : (emit e s).run = s.run := rfl
@[simp] theorem emit_acc (e : Event) : (emit e s).acc = s.acc := rfl
@[simp] theorem emit_inside (e : Event) : (emit e s).inside = s.inside := rfl
@[simp] theorem emit_accOver (e : Event) : (emit e s).accOver = s.accOver := rfl
@[simp] theorem emit_imgOpen (e : Event) : (emit e s).imgOpen = s.imgOpen := rfl
@[simp] theorem emit_imgCount (e : Event) : (emit e s).imgCount = s.imgCount := rfl
@[simp] theorem emit_imgBuf (e : Event) : (emit e s).imgBuf = s.imgBuf := rfl
@[simp] theorem emit_cntFrames (e : Event) : (emit e s).cntFrames = s.cntFrames := rfl
@[simp] theorem emit_cntImages (e : Event) : (emit e s).cntImages = s.cntImages := rfl
@[simp] theorem emit_cntLenFail (e : Event) : (emit e s).cntLenFail = s.cntLenFail := rfl
@[simp] theorem emit_cntCrcFail (e : Event) : (emit e s).cntCrcFail = s.cntCrcFail := rfl
@[simp] theorem emit_events (e : Event) : (emit e s).events = s.events ++ [e] := rfl
@[simp] theorem emit_refused (e : Event) : (emit e s).refused = s.refused := rfl
@[simp] theorem emit_fb (e : Event) : (emit e s).fb = s.fb := rfl
@[simp] theorem emit_dsOut (e : Event) : (emit e s).dsOut = s.dsOut := rfl
@[simp] theorem emit_dsPos (e : Event) : (emit e s).dsPos = s.dsPos := rfl
@[simp] theorem emit_dsAmbiguous (e : Event) : (emit e s).dsAmbiguous = s.dsAmbiguous := rfl
@[simp] theorem emit_pduStatuses (e : Event) : (emit e s).pduStatuses = s.pduStatuses := rfl
@[simp] theorem emit_latitude (e : Event) : (emit e s).latitude = s.latitude := rfl
@[simp] theorem emit_longitude (e : Event) : (emit e s).longitude = s.longitude := rfl
@[simp] theorem emit_inputs (e : Event) : (emit e s).inputs = s.inputs := rfl
@[simp] theorem emit_unitToken (e : Event) : (emit e s).unitToken = s.unitToken := rfl

@[simp] theorem countOutcome_mode (o : FrameOutcome) : (countOutcome o s).mode = s.mode := rfl
@[simp] theorem countOutcome_bypass (o : FrameOutcome) : (countOutcome o s).bypass = s.bypass := rfl
@[simp] theorem countOutcome_run (o : FrameOutcome) : (countOutcome o s).run = s.run := rfl
@[simp] theorem countOutcome_acc (o : FrameOutcome) : (countOutcome o s).acc = s.acc := rfl
@[simp] theorem countOutcome_inside (o : FrameOutcome) : (countOutcome o s).inside = s.inside := rfl
@[simp] theorem countOutcome_accOver (o : FrameOutcome) : (countOutcome o s).accOver = s.accOver := rfl
@[simp] theorem countOutcome_imgOpen (o : FrameOutcome) : (countOutcome o s).imgOpen = s.imgOpen := rfl
@[simp] theorem countOutcome_imgCount (o : FrameOutcome) : (countOutcome o s).imgCount = s.imgCount := rfl
@[simp] theorem countOutcome_imgBuf (o : FrameOutcome) : (countOutcome o s).imgBuf = s.imgBuf := rfl
@[simp] theorem countOutcome_cntFrames (o : FrameOutcome) : (countOutcome o s).cntFrames = s.cntFrames + 1 := rfl
@[simp] theorem countOutcome_cntImages (o : FrameOutcome) : (countOutcome o s).cntImages = s.cntImages := rfl
@[simp] theorem countOutcome_cntLenFail (o : FrameOutcome) : (countOutcome o s).cntLenFail = if o = .lengthInvalid then s.cntLenFail + 1 else s.cntLenFail := rfl
@[simp] theorem countOutcome_cntCrcFail (o : FrameOutcome) : (countOutcome o s).cntCrcFail = if o = .checksumInvalid then s.cntCrcFail + 1 else s.cntCrcFail := rfl
@[simp] theorem countOutcome_events (o : FrameOutcome) : (countOutcome o s).events = s.events := rfl
@[simp] theorem countOutcome_refused (o : FrameOutcome) : (countOutcome o s).refused = s.refused := rfl
@[simp] theorem countOutcome_fb (o : FrameOutcome) : (countOutcome o s).fb = s.fb := rfl
@[simp] theorem countOutcome_dsOut (o : FrameOutcome) : (countOutcome o s).dsOut = s.dsOut := rfl
@[simp] theorem countOutcome_dsPos (o : FrameOutcome) : (countOutcome o s).dsPos = s.dsPos := rfl
@[simp] theorem countOutcome_dsAmbiguous (o : FrameOutcome) : (countOutcome o s).dsAmbiguous = s.dsAmbiguous := rfl
@[simp] theorem countOutcome_pduStatuses (o : FrameOutcome) : (countOutcome o s).pduStatuses = s.pduStatuses := rfl
@[simp] theorem countOutcome_latitude (o : FrameOutcome) : (countOutcome o s).latitude = s.latitude := rfl
@[simp] theorem countOutcome_longitude (o : FrameOutcome) : (countOutcome o s).longitude = s.longitude := rfl
@[simp] theorem countOutcome_inputs (o : FrameOutcome) : (countOutcome o s).inputs = s.inputs := rfl
@[simp] theorem countOutcome_unitToken (o : FrameOutcome) : (countOutcome o s).unitToken = s.unitToken := rfl

@[simp] theorem countImage_mode : (countImage s).mode = s.mode := rfl
@[simp] theorem countImage_bypass : (countImage s).bypass = s.bypass := rfl
@[simp] theorem countImage_run : (countImage s).run = s.run := rfl
@[simp] theorem countImage_acc : (countImage s).acc = s.acc := rfl
@[simp] theorem countImage_inside : (countImage s).inside = s.inside := rfl
@[simp] theorem countImage_accOver : (countImage s).accOver = s.accOver := rfl
@[simp] theorem countImage_imgOpen : (countImage s).imgOpen = s.imgOpen := rfl
@[simp] theorem countImage_imgCount : (countImage s).imgCount = s.imgCount := rfl
@[simp] theorem countImage_imgBuf : (countImage s).imgBuf = s.imgBuf := rfl
@[simp] theorem countImage_cntFrames : (countImage s).cntFrames = s.cntFrames := rfl
@[simp] theorem countImage_cntImages : (countImage s).cntImages = s.cntImages + 1 := rfl
@[simp] theorem countImage_cntLenFail : (countImage s).cntLenFail = s.cntLenFail := rfl
@[simp] theorem countImage_cntCrcFail : (countImage s).cntCrcFail = s.cntCrcFail := rfl
@[simp] theorem countImage_events : (countImage s).events = s.events := rfl
@[simp] theorem countImage_refused : (countImage s).refused = s.refused := rfl
@[simp] theorem countImage_fb : (countImage s).fb = s.fb := rfl
@[simp] theorem countImage_dsOut : (countImage s).dsOut = s.dsOut := rfl
@[simp] theorem countImage_dsPos : (countImage s).dsPos = s.dsPos := rfl
@[simp] theorem countImage_dsAmbiguous : (countImage s).dsAmbiguous = s.dsAmbiguous := rfl
@[simp] theorem countImage_pduStatuses : (countImage s).pduStatuses = s.pduStatuses := rfl
@[simp] theorem countImage_latitude : (countImage s).latitude = s.latitude := rfl
@[simp] theorem countImage_longitude : (countImage s).longitude = s.longitude := rfl
@[simp] theorem countImage_inputs : (countImage s).inputs = s.inputs := rfl
@[simp] theorem countImage_unitToken : (countImage s).unitToken = s.unitToken := rfl

@[simp] theorem zeroCounters_mode : (zeroCounters s).mode = s.mode := rfl
@[simp] theorem zeroCounters_bypass : (zeroCounters s).bypass = s.bypass := rfl
@[simp] theorem zeroCounters_run : (zeroCounters s).run = s.run := rfl
@[simp] theorem zeroCounters_acc : (zeroCounters s).acc = s.acc := rfl
@[simp] theorem zeroCounters_inside : (zeroCounters s).inside = s.inside := rfl
@[simp] theorem zeroCounters_accOver : (zeroCounters s).accOver = s.accOver := rfl
@[simp] theorem zeroCounters_imgOpen : (zeroCounters s).imgOpen = s.imgOpen := rfl
@[simp] theorem zeroCounters_imgCount : (zeroCounters s).imgCount = s.imgCount := rfl
@[simp] theorem zeroCounters_imgBuf : (zeroCounters s).imgBuf = s.imgBuf := rfl
@[simp] theorem zeroCounters_cntFrames : (zeroCounters s).cntFrames = 0 := rfl
@[simp] theorem zeroCounters_cntImages : (zeroCounters s).cntImages = 0 := rfl
@[simp] theorem zeroCounters_cntLenFail : (zeroCounters s).cntLenFail = 0 := rfl
@[simp] theorem zeroCounters_cntCrcFail : (zeroCounters s).cntCrcFail = 0 := rfl
@[simp] theorem zeroCounters_events : (zeroCounters s).events = s.events := rfl
@[simp] theorem zeroCounters_refused : (zeroCounters s).refused = s.refused := rfl
@[simp] theorem zeroCounters_fb : (zeroCounters s).fb = s.fb := rfl
@[simp] theorem zeroCounters_dsOut : (zeroCounters s).dsOut = s.dsOut := rfl
@[simp] theorem zeroCounters_dsPos : (zeroCounters s).dsPos = s.dsPos := rfl
@[simp] theorem zeroCounters_dsAmbiguous : (zeroCounters s).dsAmbiguous = s.dsAmbiguous := rfl
@[simp] theorem zeroCounters_pduStatuses : (zeroCounters s).pduStatuses = s.pduStatuses := rfl
@[simp] theorem zeroCounters_latitude : (zeroCounters s).latitude = s.latitude := rfl
@[simp] theorem zeroCounters_longitude : (zeroCounters s).longitude = s.longitude := rfl
@[simp] theorem zeroCounters_inputs : (zeroCounters s).inputs = s.inputs := rfl
@[simp] theorem zeroCounters_unitToken : (zeroCounters s).unitToken = s.unitToken := rfl

@[simp] theorem setInputs_mode (xs : List Input) : (setInputs xs s).mode = s.mode := rfl
@[simp] theorem setInputs_bypass (xs : List Input) : (setInputs xs s).bypass = s.bypass := rfl
@[simp] theorem setInputs_run (xs : List Input) : (setInputs xs s).run = s.run := rfl
@[simp] theorem setInputs_acc (xs : List Input) : (setInputs xs s).acc = s.acc := rfl
@[simp] theorem setInputs_inside (xs : List Input) : (setInputs xs s).inside = s.inside := rfl
@[simp] theorem setInputs_accOver (xs : List Input) : (setInputs xs s).accOver = s.accOver := rfl
@[simp] theorem setInputs_imgOpen (xs : List Input) : (setInputs xs s).imgOpen = s.imgOpen := rfl
@[simp] theorem setInputs_imgCount (xs : List Input) : (setInputs xs s).imgCount = s.imgCount := rfl
@[simp] theorem setInputs_imgBuf (xs : List Input) : (setInputs xs s).imgBuf = s.imgBuf := rfl
@[simp] theorem setInputs_cntFrames (xs : List Input) : (setInputs xs s).cntFrames = s.cntFrames := rfl
@[simp] theorem setInputs_cntImages (xs : List Input) : (setInputs xs s).cntImages = s.cntImages := rfl
@[simp] theorem setInputs_cntLenFail (xs : List Input) : (setInputs xs s).cntLenFail = s.cntLenFail := rfl
@[simp] theorem setInputs_cntCrcFail (xs : List Input) : (setInputs xs s).cntCrcFail = s.cntCrcFail := rfl
@[simp] theorem setInputs_events (xs : List Input) : (setInputs xs s).events = s.events := rfl
@[simp] theorem setInputs_refused (xs : List Input) : (setInputs xs s).refused = s.refused := rfl
@[simp] theorem setInputs_fb (xs : List Input) : (setInputs xs s).fb = s.fb := rfl
@[simp] theorem setInputs_dsOut (xs : List Input) : (setInputs xs s).dsOut = s.dsOut := rfl
@[simp] theorem setInputs_dsPos (xs : List Input) : (setInputs xs s).dsPos = s.dsPos := rfl
@[simp] theorem setInputs_dsAmbiguous (xs : List Input) : (setInputs xs s).dsAmbiguous = s.dsAmbiguous := rfl
@[simp] theorem setInputs_pduStatuses (xs : List Input) : (setInputs xs s).pduStatuses = s.pduStatuses := rfl
@[simp] theorem setInputs_latitude (xs : List Input) : (setInputs xs s).latitude = s.latitude := rfl
@[simp] theorem setInputs_longitude (xs : List Input) : (setInputs xs s).longitude = s.longitude := rfl
@[simp] theorem setInputs_inputs (xs : List Input) : (setInputs xs s).inputs = xs := rfl
@[simp] theorem setInputs_unitToken (xs : List Input) : (setInputs xs s).unitToken = s.unitToken := rfl

@[simp] theorem setUnitToken_mode (u : Option (TokenContext × List Byte)) : (setUnitToken u s).mode = s.mode := rfl
@[simp] theorem setUnitToken_bypass (u : Option (TokenContext × List Byte)) : (setUnitToken u s).bypass = s.bypass := rfl
@[simp] theorem setUnitToken_run (u : Option (TokenContext × List Byte)) : (setUnitToken u s).run = s.run := rfl
@[simp] theorem setUnitToken_acc (u : Option (TokenContext × List Byte)) : (setUnitToken u s).acc = s.acc := rfl
@[simp] theorem setUnitToken_inside (u : Option (TokenContext × List Byte)) : (setUnitToken u s).inside = s.inside := rfl
@[simp] theorem setUnitToken_accOver (u : Option (TokenContext × List Byte)) : (setUnitToken u s).accOver = s.accOver := rfl
@[simp] theorem setUnitToken_imgOpen (u : Option (TokenContext × List Byte)) : (setUnitToken u s).imgOpen = s.imgOpen := rfl
@[simp] theorem setUnitToken_imgCount (u : Option (TokenContext × List Byte)) : (setUnitToken u s).imgCount = s.imgCount := rfl
@[simp] theorem setUnitToken_imgBuf (u : Option (TokenContext × List Byte)) : (setUnitToken u s).imgBuf = s.imgBuf := rfl
@[simp] theorem setUnitToken_cntFrames (u : Option (TokenContext × List Byte)) : (setUnitToken u s).cntFrames = s.cntFrames := rfl
@[simp] theorem setUnitToken_cntImages (u : Option (TokenContext × List Byte)) : (setUnitToken u s).cntImages = s.cntImages := rfl
@[simp] theorem setUnitToken_cntLenFail (u : Option (TokenContext × List Byte)) : (setUnitToken u s).cntLenFail = s.cntLenFail := rfl
@[simp] theorem setUnitToken_cntCrcFail (u : Option (TokenContext × List Byte)) : (setUnitToken u s).cntCrcFail = s.cntCrcFail := rfl
@[simp] theorem setUnitToken_events (u : Option (TokenContext × List Byte)) : (setUnitToken u s).events = s.events := rfl
@[simp] theorem setUnitToken_refused (u : Option (TokenContext × List Byte)) : (setUnitToken u s).refused = s.refused := rfl
@[simp] theorem setUnitToken_fb (u : Option (TokenContext × List Byte)) : (setUnitToken u s).fb = s.fb := rfl
@[simp] theorem setUnitToken_dsOut (u : Option (TokenContext × List Byte)) : (setUnitToken u s).dsOut = s.dsOut := rfl
@[simp] theorem setUnitToken_dsPos (u : Option (TokenContext × List Byte)) : (setUnitToken u s).dsPos = s.dsPos := rfl
@[simp] theorem setUnitToken_dsAmbiguous (u : Option (TokenContext × List Byte)) : (setUnitToken u s).dsAmbiguous = s.dsAmbiguous := rfl
@[simp] theorem setUnitToken_pduStatuses (u : Option (TokenContext × List Byte)) : (setUnitToken u s).pduStatuses = s.pduStatuses := rfl
@[simp] theorem setUnitToken_latitude (u : Option (TokenContext × List Byte)) : (setUnitToken u s).latitude = s.latitude := rfl
@[simp] theorem setUnitToken_longitude (u : Option (TokenContext × List Byte)) : (setUnitToken u s).longitude = s.longitude := rfl
@[simp] theorem setUnitToken_inputs (u : Option (TokenContext × List Byte)) : (setUnitToken u s).inputs = s.inputs := rfl
@[simp] theorem setUnitToken_unitToken (u : Option (TokenContext × List Byte)) : (setUnitToken u s).unitToken = u := rfl

end

end Sys2Proof.Machine
end

