-- ==== Sys2Proof/Laws/Destuffer.lean ====
section
/-! SUPPORT. One equation per kind of token at the head of the de-stuffer's input, what a scan can change, and what stuffing never
gives. -/

namespace Sys2Proof.Machine

@[simp] theorem destuffScan_nil (s : State) : destuffScan [] s = s := rfl

@[simp] theorem destuffScan_trunc (s : State) : destuffScan [escByte] s = dsEscTrunc s := rfl

theorem destuffScan_lit {b : Byte} (rest : List Byte) (s : State) (h : b ≠ escByte) :
    destuffScan (b :: rest) s = destuffScan rest (dsLit b s) := by
  rw [destuffScan.eq_def]; exact if_neg h

theorem destuffScan_pair (c : Byte) (rest : List Byte) (s : State) :
    destuffScan (escByte :: c :: rest) s =
      if c = escCodeCA then destuffScan rest (dsEscCA s)
      else if c = escCodeEF then destuffScan rest (dsEscEF s)
      else if c = escCodeBD then destuffScan rest (dsEscBD s)
      else dsEscBad c s := by
  rw [destuffScan.eq_def]; exact if_pos rfl

/-- The induction every fact about a scan uses: nothing left, a lone escape byte, an escape pair, a literal. -/
theorem destuff_induction {P : List Byte → Prop} (nil : P []) (trunc : P [escByte])
    (pair : ∀ c rest, P rest → P (escByte :: c :: rest)) (lit : ∀ b rest, b ≠ escByte → P rest → P (b :: rest)) :
    ∀ r, P r
  | [] => nil
  | [b] => if h : b = escByte then h ▸ trunc else lit b [] h nil
  | b :: c :: rest =>
    if h : b = escByte then h ▸ pair c rest (destuff_induction nil trunc pair lit rest)
    else lit b (c :: rest) h (destuff_induction nil trunc pair lit (c :: rest))

/-- A scan writes the de-stuffer's registers and nothing else. -/
theorem destuffScan_frame (r : List Byte) :
    ∀ s : State, ∃ out pos amb, destuffScan r s = { s with dsOut := out, dsPos := pos, dsAmbiguous := amb } := by
  induction r using destuff_induction with
  | nil => exact fun s => ⟨_, _, _, destuffScan_nil s⟩
  | trunc => exact fun s => ⟨_, _, _, destuffScan_trunc s⟩
  | pair c rest ih =>
    intro s
    rw [destuffScan_pair]
    split
    · obtain ⟨o, p, a, h⟩ := ih (dsEscCA s); exact ⟨o, p, a, h⟩
    · split
      · obtain ⟨o, p, a, h⟩ := ih (dsEscEF s); exact ⟨o, p, a, h⟩
      · split
        · obtain ⟨o, p, a, h⟩ := ih (dsEscBD s); exact ⟨o, p, a, h⟩
        · exact ⟨_, _, _, rfl⟩
  | lit b rest hb ih =>
    intro s
    rw [destuffScan_lit rest s hb]
    obtain ⟨o, p, a, h⟩ := ih (dsLit b s)
    exact ⟨o, p, a, h⟩

/-- A whole call of the de-stuffer writes its registers and nothing else. -/
theorem destuffFrame_frame (r : List Byte) (s : State) :
    ∃ out pos amb, destuffFrame r s = { s with dsOut := out, dsPos := pos, dsAmbiguous := amb } := by
  obtain ⟨o, p, a, h⟩ := destuffScan_frame r (clearDestuffer s)
  exact ⟨o, p, a, h⟩

/-- A stuffed body holds no sentinel (R72). -/
theorem stuff_no_sentinel (bs : List Byte) : ∀ b ∈ stuff bs, b ≠ sentStart ∧ b ≠ sentEnd := by
  induction bs with
  | nil => intro b h; cases h
  | cons a bs ih =>
    intro b h
    rw [stuff, List.mem_append] at h
    rcases h with h | h
    · split at h
      · rcases List.mem_pair.mp h with rfl | rfl <;> decide
      · split at h
        · rcases List.mem_pair.mp h with rfl | rfl <;> decide
        · split at h
          · rcases List.mem_pair.mp h with rfl | rfl <;> decide
          · cases List.mem_singleton.mp h
            exact ⟨by assumption, by assumption⟩
    · exact ih b h

end Sys2Proof.Machine
end

