-- ==== Sys2Proof/Laws/Memory.lean ====
section
/-! SUPPORT. What the buffer operations do, and that every buffer is in canonical form. -/

namespace Sys2Proof.Machine

theorem memRead_of_le {m : Memory} {a n : Nat} (h : a + n ≤ m.length) : memRead m a n = some ((m.drop a).take n) := by
  simp [memRead, h]

theorem memRead_of_gt {m : Memory} {a n : Nat} (h : m.length < a + n) : memRead m a n = none := by
  simp [memRead, Nat.not_le.mpr h]

theorem memRead_length {m bs : Memory} {a n : Nat} (h : memRead m a n = some bs) : bs.length = n := by
  unfold memRead at h
  split at h
  · cases h; simp; omega
  · cases h

/-- A read answers exactly where every address it names lies in the buffer. -/
theorem memRead_isSome {m : Memory} {a n : Nat} : (memRead m a n).isSome ↔ a + n ≤ m.length := by
  unfold memRead; split <;> simp_all

theorem memByte_of_lt {m : Memory} {a : Nat} (h : a < m.length) : memByte m a = some m[a] := by
  simp [memByte, h]

/-- An append leaves every older address as it was. -/
theorem memByte_memAppend_old {m bs : Memory} {a : Nat} (h : a < m.length) : memByte (memAppend m bs) a = memByte m a := by
  simp [memByte, memAppend, List.getElem?_append_left h]

/-- An append lists its bytes from the old end on. -/
theorem memByte_memAppend_new {m bs : Memory} {k : Nat} : memByte (memAppend m bs) (m.length + k) = bs[k]? := by
  simp [memByte, memAppend, List.getElem?_append_right]

@[simp] theorem memAppend_length (m bs : Memory) : (memAppend m bs).length = m.length + bs.length := by
  simp [memAppend]

/-- Every buffer lists its addresses in rising order, so equal contents are equal data. -/
theorem memory_wf (m : Memory) : Memory.wf m = true := by
  have h : (memCells m).map Prod.fst = List.range m.length := by
    simp [memCells, List.map_map, Function.comp_def, List.zipIdx_map_snd, List.range_eq_range']
  simp [Memory.wf, h, List.pairwise_lt_range]

/-- Appending keeps the canonical form. -/
theorem memAppend_wf (m bs : Memory) (_h : Memory.wf m = true) : Memory.wf (memAppend m bs) = true := memory_wf _

end Sys2Proof.Machine
end

