-- ==== Sys2Proof/Laws/Image.lean ====
section
/-! SUPPORT. Everything the chunk operation can do. -/

namespace Sys2Proof.Machine

/-- A chunk of a frame that holds the slice: it is appended to the open assembly, or to a new one, and the assembly is delivered
exactly where the index is 0x1A or the count reaches 27. -/
theorem imageChunk_full {s : State} (seq : Byte) (h : 281 ≤ s.fb.length) :
    imageChunk seq s =
      consumeFrame (deliverIfComplete seq (appendChunk ((s.fb.drop 3).take 278) (openIfNeeded seq s))) := by
  have hr : memRead s.fb imgLo imgLen = some ((s.fb.drop 3).take 278) := memRead_of_le h
  unfold imageChunk
  rw [hr]

/-- Everything a chunk can do: the refused mark where the frame is too short, a longer assembly, or a delivered one. -/
theorem imageChunk_cases (seq : Byte) (s : State) :
    imageChunk seq s = refuse s ∨
    ∃ slice buf n, memRead s.fb imgLo imgLen = some slice ∧
      ((buf = [] ∧ n = 0 ∧ (s.imgOpen = false ∨ seq = imgFirst)) ∨
        (buf = s.imgBuf ∧ n = s.imgCount ∧ s.imgOpen = true ∧ seq ≠ imgFirst)) ∧
      ((imageChunk seq s = consumeFrame { s with imgOpen := true, imgCount := n + 1, imgBuf := buf ++ slice } ∧
          seq ≠ imgLast ∧ n + 1 ≠ imgMaxChunks) ∨
        (imageChunk seq s =
            consumeFrame (closeAssembly (countImage (emit (.image (buf ++ slice)) s))) ∧
          (seq = imgLast ∨ n + 1 = imgMaxChunks))) := by
  unfold imageChunk
  split
  · exact .inl rfl
  · rename_i slice hs
    refine .inr ⟨slice, (openIfNeeded seq s).imgBuf, (openIfNeeded seq s).imgCount, hs, ?_, ?_⟩
    · unfold openIfNeeded
      split
      · rename_i ho; exact .inl ⟨rfl, rfl, ho⟩
      · rename_i ho
        refine .inr ⟨rfl, rfl, ?_, fun e => ho (.inr e)⟩
        cases hh : s.imgOpen
        · exact absurd (.inl hh) ho
        · rfl
    · unfold deliverIfComplete
      split
      · rename_i hc
        refine .inr ⟨?_, hc⟩
        unfold openIfNeeded; split <;> rfl
      · rename_i hc
        refine .inl ⟨?_, fun e => hc (.inl e), fun e => hc (.inr e)⟩
        unfold openIfNeeded
        split
        · rfl
        · rename_i ho
          have : s.imgOpen = true := by
            cases hh : s.imgOpen
            · exact absurd (.inl hh) ho
            · rfl
          simp [appendChunk, memAppend, this]

end Sys2Proof.Machine
end

