-- ==== Sys2Proof/Laws/Telemetry.lean ====
section
/-! SUPPORT. The readers of a telemetry frame as plain functions of its bytes, and everything FT_TELEMETRY can do. -/

namespace Sys2Proof.Machine

/-! ### Readers -/

theorem memByte_eq_byteAt {m : Memory} {o : Nat} (h : o < m.length) : memByte m o = some (byteAt m o) := by
  simp [memByte, byteAt, List.getD, h]

theorem u16be_of_lt {m : Memory} {o : Nat} (h : o + 1 < m.length) :
    u16be m o = some (byteAt m o ++ byteAt m (o + 1)) := by
  simp [u16be, memByte_eq_byteAt h, memByte_eq_byteAt (m := m) (o := o) (by omega)]

/-- A big-endian word is 256 times its first byte plus its second. -/
theorem append_toNat (h l : Byte) : (h ++ l).toNat = h.toNat * 256 + l.toNat := by
  have := l.isLt
  rw [BitVec.toNat_append, ← Nat.shiftLeft_add_eq_or_of_lt l.isLt, Nat.shiftLeft_eq]

theorem s16be_of_lt {m : Memory} {o : Nat} (h : o + 1 < m.length) : s16be m o = some (s16At m o) := by
  simp only [s16be, u16be_of_lt h, s16At, Option.some.injEq, BitVec.toInt_eq_toNat_cond, append_toNat]
  have := (byteAt m o).isLt
  have := (byteAt m (o + 1)).isLt
  split <;> split <;> push_cast <;> omega

theorem readingOf_s16At (m : Memory) (o : Nat) (scale : Scale) (fail : Bool) :
    readingOf scale fail (s16At m o) = readingAt m o scale fail := rfl

/-- A row of class I reads as the reading at its offset. -/
theorem field_of_lt {m : Memory} {r : Int16Row} (h : r.off + 1 < m.length) :
    field m r = some (readingAt m r.off r.scale r.fail) := by
  simp [field, s16be_of_lt h, readingOf_s16At]

theorem take_drop_succ {m : Memory} {o n : Nat} (h : o < m.length) :
    (m.drop o).take (n + 1) = byteAt m o :: (m.drop (o + 1)).take n := by
  rw [List.drop_eq_getElem_cons h, List.take_succ_cons]
  simp [byteAt, List.getD, h]

theorem take_drop_eight {m : Memory} {o : Nat} (h : o + 8 ≤ m.length) :
    (m.drop o).take 8 = [byteAt m o, byteAt m (o + 1), byteAt m (o + 2), byteAt m (o + 3), byteAt m (o + 4),
      byteAt m (o + 5), byteAt m (o + 6), byteAt m (o + 7)] := by
  rw [take_drop_succ (by omega), take_drop_succ (by omega), take_drop_succ (by omega), take_drop_succ (by omega),
    take_drop_succ (by omega), take_drop_succ (by omega), take_drop_succ (by omega), take_drop_succ (by omega), List.take_zero]

theorem beNat_eight (a b c d e f g h : Byte) :
    beNat [a, b, c, d, e, f, g, h] = a.toNat * 2 ^ 56 + b.toNat * 2 ^ 48 + c.toNat * 2 ^ 40 + d.toNat * 2 ^ 32
      + e.toNat * 2 ^ 24 + f.toNat * 2 ^ 16 + g.toNat * 2 ^ 8 + h.toNat := by
  simp only [beNat, List.foldl_cons, List.foldl_nil]
  omega

theorem f64be_of_le {m : Memory} {o : Nat} (h : o + 8 ≤ m.length) : f64be m o = some (f64At m o) := by
  unfold f64be f64At
  rw [memRead_of_le h, take_drop_eight h, ← beNat_eight]

/-- Reading a list of rows that all lie in the buffer reads each of them. -/
theorem mapM_some {α β : Type} {f : α → Option β} {g : α → β} :
    ∀ l : List α, (∀ a ∈ l, f a = some (g a)) → l.mapM f = some (l.map g)
  | [], _ => rfl
  | a :: l, h => by
    simp [h a (by simp), mapM_some l fun b hb => h b (by simp [hb])]

/-! ### Coordinates -/

/-- The conversion and the hemisphere byte together are `coord(v, h, neg)`. -/
theorem convertCoord_negated (v : F64) (h neg : Byte) :
    (if h = neg then negCoord (convertCoord v) else convertCoord v) = coordOf v h neg := by
  unfold convertCoord coordOf f64IsFinite
  by_cases hv : f64Exp v = 2047
  · simp [hv, negCoord]
  · by_cases hh : h = neg <;> simp [hv, hh, negCoord, coordDegrees, coordMinutes, f64Neg]

/-! ### Status bytes -/

theorem statusByte_eq (x : Byte) (s : State) : statusByte x s = pushStatus (statusOf x) s := by
  have h0 : x = 0 ↔ x.toNat = 0 := ⟨fun h => h ▸ rfl, fun h => BitVec.eq_of_toNat_eq h⟩
  have h1 : x = 1 ↔ x.toNat = 1 := ⟨fun h => h ▸ rfl, fun h => BitVec.eq_of_toNat_eq h⟩
  have h2 : x = 2 ↔ x.toNat = 2 := ⟨fun h => h ▸ rfl, fun h => BitVec.eq_of_toNat_eq h⟩
  have h3 : x = 3 ↔ x.toNat = 3 := ⟨fun h => h ▸ rfl, fun h => BitVec.eq_of_toNat_eq h⟩
  have h4 : x = 4 ↔ x.toNat = 4 := ⟨fun h => h ▸ rfl, fun h => BitVec.eq_of_toNat_eq h⟩
  unfold statusByte statusOf
  simp only [h0, h1, h2, h3, h4]
  split_ifs <;> rfl

theorem statusBytes_eq : ∀ (xs : List Byte) (s : State),
    statusBytes xs s = { s with pduStatuses := s.pduStatuses ++ xs.map statusOf }
  | [], s => by simp [statusBytes]
  | x :: xs, s => by
    rw [statusBytes, statusByte_eq, statusBytes_eq xs]
    simp [pushStatus]

theorem convertCoordinates_eq (g : GpsReads) (s : State) :
    convertCoordinates g s =
      { s with latitude := coordOf g.lat g.latHemi asciiS, longitude := coordOf g.lon g.lonHemi asciiW } := by
  simp only [← convertCoord_negated]
  unfold convertCoordinates latHemisphere lonHemisphere hemiLatS hemiLonW hemiOther
  split <;> split <;> rfl

/-! ### FT_TELEMETRY -/

/-- Everything FT_TELEMETRY can do: the refused mark where the frame is too short, or one event. -/
theorem ftTelemetry_cases (s : State) :
    ftTelemetry s = refuse s ∨
    ∃ rec gps, ftTelemetry s = consumeFrame (clearExtractor (emit (.telemetry rec gps) s)) := by
  unfold ftTelemetry
  split
  · exact .inl rfl
  · split
    · split
      · exact .inl rfl
      · exact .inr ⟨_, _, by rw [convertCoordinates_eq, statusBytes_eq]; rfl⟩
    · exact .inr ⟨_, _, by rw [statusBytes_eq]; rfl⟩

/-- What `readFields` gives on a buffer that holds every field: each one at its offset. -/
theorem readFields_eq {m : Memory} (h : 136 ≤ m.length) :
    readFields m = some {
      time := ⟨byteAt m 3, byteAt m 4, byteAt m 5, byteAt m 6, byteAt m 7⟩
      iou := iouRows.map fun r => readingAt m r.off r.scale r.fail
      rgbw := [byteAt m 39, byteAt m 40, byteAt m 41, byteAt m 42]
      ir := byteAt m 43
      inert := inertRows.map fun r => readingAt m r.off r.scale r.fail
      statusBytes := pduStatusOffs.map (byteAt m)
      pduValues := pduValueRows.map fun r => readingAt m r.off r.scale r.fail
      pmu := pmuRows.map fun r => readingAt m r.off r.scale r.fail } := by
  have hf : ∀ l : List Int16Row, (∀ r ∈ l, r.off + 1 < 136) →
      l.mapM (field m) = some (l.map fun r => readingAt m r.off r.scale r.fail) := fun l hl =>
    mapM_some l fun r hr => field_of_lt (Nat.lt_of_lt_of_le (hl r hr) h)
  have hs : pduStatusOffs.mapM (memByte m) = some (pduStatusOffs.map (byteAt m)) :=
    mapM_some _ fun o ho => memByte_eq_byteAt (by
      simp only [pduStatusOffs, pduStatusOff, List.mem_map, List.mem_range] at ho
      obtain ⟨k, hk, rfl⟩ := ho; omega)
  have hi : iouRows.mapM (field m) = _ := hf iouRows fun r hr => by
    simp only [iouRows, List.mem_map, List.mem_range] at hr
    obtain ⟨i, hi, rfl⟩ := hr; simp [iouRow]; omega
  have hn : inertRows.mapM (field m) = _ := hf inertRows fun r hr => by
    simp only [inertRows, List.mem_map, List.mem_range] at hr
    obtain ⟨i, hi, rfl⟩ := hr; simp [inertRow]; omega
  have hv : pduValueRows.mapM (field m) = _ := hf pduValueRows fun r hr => by
    simp only [pduValueRows, List.mem_map, List.mem_range] at hr
    obtain ⟨i, hi, rfl⟩ := hr; simp [pduValueRow]; omega
  have hp : pmuRows.mapM (field m) = _ := hf pmuRows fun r hr => by
    simp only [pmuRows, List.mem_map, List.mem_range] at hr
    obtain ⟨i, hi, rfl⟩ := hr; simp [pmuRow]; omega
  have ht : readTime m = some ⟨byteAt m 3, byteAt m 4, byteAt m 5, byteAt m 6, byteAt m 7⟩ := by
    simp [readTime, memByte_eq_byteAt (m := m) (o := 3) (by omega), memByte_eq_byteAt (m := m) (o := 4) (by omega),
      memByte_eq_byteAt (m := m) (o := 5) (by omega), memByte_eq_byteAt (m := m) (o := 6) (by omega),
      memByte_eq_byteAt (m := m) (o := 7) (by omega)]
  have hr : memRead m 39 4 = some [byteAt m 39, byteAt m 40, byteAt m 41, byteAt m 42] := by
    rw [memRead_of_le (by omega), take_drop_succ (by omega), take_drop_succ (by omega), take_drop_succ (by omega),
      take_drop_succ (by omega), List.take_zero]
  simp [readFields, ht, hi, hn, hs, hv, hp, hr, memByte_eq_byteAt (m := m) (o := 43) (by omega)]

/-- What `readGps` gives on a buffer that holds the GPS block. -/
theorem readGps_eq {m : Memory} (h : 160 ≤ m.length) :
    readGps m = some ⟨byteAt m 137, byteAt m 138, byteAt m 139, byteAt m 140, f64At m 141, byteAt m 149, f64At m 150,
      byteAt m 158⟩ := by
  simp [readGps, memByte_eq_byteAt (m := m) (o := 137) (by omega), memByte_eq_byteAt (m := m) (o := 138) (by omega),
    memByte_eq_byteAt (m := m) (o := 139) (by omega), memByte_eq_byteAt (m := m) (o := 140) (by omega),
    memByte_eq_byteAt (m := m) (o := 149) (by omega), memByte_eq_byteAt (m := m) (o := 158) (by omega),
    f64be_of_le (m := m) (o := 141) (by omega), f64be_of_le (m := m) (o := 150) (by omega)]

/-- A frame of full length always yields one TELEMETRY event. -/
theorem ftTelemetry_full {s : State} (h : s.fb.length = 284) :
    ∃ rec gps, ftTelemetry s = consumeFrame (clearExtractor (emit (.telemetry rec gps) s)) := by
  unfold ftTelemetry
  rw [readFields_eq (m := s.fb) (by omega), readGps_eq (m := s.fb) (by omega), h]
  dsimp only
  rw [if_pos (by decide), convertCoordinates_eq, statusBytes_eq]
  exact ⟨_, _, rfl⟩

end Sys2Proof.Machine
end

