-- ==== Sys2Proof/Laws/Framer.lean ====
section
/-! SUPPORT. Everything the completion of a candidate frame can do. -/

namespace Sys2Proof.Machine

/-- A frame that is not Ok is counted and reported and nothing else. -/
theorem finishFrame_failed {o : FrameOutcome} (fb : Memory) (s : State) (h : o ≠ .ok) :
    finishFrame o fb s = reportOutcome o s := by simp [finishFrame, h]

/-- An Ok frame of full length is counted, reported, loaded and handed to its tag's token. -/
theorem finishFrame_ok {fb : Memory} (s : State) (h : fb.length = 284) :
    finishFrame .ok fb s = tagByte (byteAt fb 2) (loadFrame fb (reportOutcome .ok s)) := by
  simp only [finishFrame, if_true, classifyFrame]
  rw [loadFrame_fb, memByte_eq_byteAt (by simp only [h, tagOff]; omega)]

/-- A tag's token on a frame of full length: a record, or a chunk with the tag as its index. -/
theorem tagByte_cases (t : Byte) {s : State} (h : s.fb.length = 284) :
    (t = tagTelemetry ∧ ∃ rec gps, tagByte t s = consumeFrame (clearExtractor (emit (.telemetry rec gps) s))) ∨
    (t ≠ tagTelemetry ∧ tagByte t s = imageChunk t s) := by
  unfold tagByte
  split
  · rename_i ht; exact .inl ⟨ht, ftTelemetry_full h⟩
  · rename_i ht
    refine .inr ⟨ht, ?_⟩
    split
    · rename_i h0; subst h0; rfl
    · split
      · rename_i h1; subst h1; rfl
      · rfl

/-- A chunk of a frame of full length is never refused. -/
theorem imageChunk_ne_refuse {s : State} (h : s.fb.length = 284) :
    ∃ slice, memRead s.fb imgLo imgLen = some slice ∧ slice.length = 278 :=
  ⟨_, memRead_of_le (by rw [h]; decide), by rw [List.length_take, List.length_drop, h]; decide⟩

/-- The completion of a mode-RF frame: the framer state is already cleared, the de-stuffer's registers are cleared here, and the
frame is finished with the first error that applies. -/
theorem completeRf_eq (r : List Byte) (ov : Bool) (s : State) :
    ∃ d amb, completeRf r ov s = finishFrame (reportedOutcome (rfError ov amb d)) d (clearDestuffer s) ∧
      (ov = false → ∃ pos, destuffFrame r s = { s with dsOut := d, dsPos := pos, dsAmbiguous := amb }) := by
  cases ov
  · obtain ⟨d, pos, amb, h⟩ := destuffFrame_frame r s
    exact ⟨d, amb, by simp only [completeRf, h, Bool.false_eq_true, if_false]; rfl, fun _ => ⟨pos, h⟩⟩
  · exact ⟨s.dsOut, s.dsAmbiguous, rfl, fun h => absurd h (by simp)⟩

/-- Only a frame of length 284 with a matching checksum has no error. -/
theorem rfError_none {ov amb : Bool} {d : Memory} (h : reportedOutcome (rfError ov amb d) = .ok) :
    ov = false ∧ amb = false ∧ d.length = 284 ∧ crcOk d = true := by
  unfold rfError at h
  split at h
  · cases h
  · split at h
    · cases h
    · split at h
      · unfold checksumError at h
        split at h
        · simp_all
        · cases h
      · cases h

theorem checksumError_none {d : Memory} (h : reportedOutcome (checksumError d) = .ok) : crcOk d = true := by
  unfold checksumError at h
  split at h
  · assumption
  · cases h

/-- A mode-RS422 frame of 282 bytes with a matching checksum goes on to its tag's token. -/
theorem completeRs_ok {raw : Memory} (s : State) (hl : raw.length = 282) (hc : crcOk ([sentStart] ++ raw ++ [sentEnd]) = true) :
    completeRs raw s = tagByte (byteAt ([sentStart] ++ raw ++ [sentEnd]) 2)
      (loadFrame ([sentStart] ++ raw ++ [sentEnd]) (reportOutcome .ok s)) := by
  unfold completeRs checksumError
  rw [if_pos hc, reportedOutcome, finishFrame_ok s (by simp [hl])]

/-- Everything the completion of a frame of either mode can do, from a state whose FB is empty or not: a failed frame is reported;
an Ok frame of full length is reported and gives a record or a chunk. -/
theorem finishFrame_cases (o : FrameOutcome) (fb : Memory) (s : State) (h : o = .ok → fb.length = 284) :
    (o ≠ .ok ∧ finishFrame o fb s = reportOutcome o s) ∨
    (o = .ok ∧ ∃ rec gps, finishFrame o fb s =
      consumeFrame (clearExtractor (emit (.telemetry rec gps) (loadFrame fb (reportOutcome .ok s))))) ∨
    (o = .ok ∧ ∃ t, finishFrame o fb s = imageChunk t (loadFrame fb (reportOutcome .ok s))) := by
  by_cases ho : o = .ok
  · subst ho
    have hl := h rfl
    rw [finishFrame_ok s hl]
    rcases tagByte_cases (byteAt fb 2) (s := loadFrame fb (reportOutcome .ok s)) hl with ⟨_, r, g, e⟩ | ⟨_, e⟩
    · exact .inr (.inl ⟨rfl, r, g, e⟩)
    · exact .inr (.inr ⟨rfl, _, e⟩)
  · exact .inl ⟨ho, finishFrame_failed fb s ho⟩

end Sys2Proof.Machine
end

