-- ==== Sys2Proof/Laws/Exec.lean ====
section
/-! SUPPORT. The meaning of each token as the state it leaves: every arm answers a next state. -/

namespace Sys2Proof.Machine

section
variable (s : State)

@[simp] theorem exec_rfStart : exec .rfStart s = .next (rfStart s) := rfl
@[simp] theorem exec_rfEnd : exec .rfEnd s = .next (rfEnd s) := rfl
@[simp] theorem exec_rfData (b : Byte) : exec (.rfData b) s = .next (rfData b s) := rfl
@[simp] theorem exec_rsData (b : Byte) : exec (.rsData b) s = .next (rsData b s) := rfl
@[simp] theorem exec_rawBypass (b : Byte) : exec (.rawBypass b) s = .next (rawBypass b s) := rfl
@[simp] theorem exec_dsLit (b : Byte) : exec (.dsLit b) s = .next (dsLit b s) := rfl
@[simp] theorem exec_dsEscCA : exec .dsEscCA s = .next (dsEscCA s) := rfl
@[simp] theorem exec_dsEscEF : exec .dsEscEF s = .next (dsEscEF s) := rfl
@[simp] theorem exec_dsEscBD : exec .dsEscBD s = .next (dsEscBD s) := rfl
@[simp] theorem exec_dsEscBad (code : Byte) : exec (.dsEscBad code) s = .next (dsEscBad code s) := rfl
@[simp] theorem exec_dsEscTrunc : exec .dsEscTrunc s = .next (dsEscTrunc s) := rfl
@[simp] theorem exec_ftTelemetry : exec .ftTelemetry s = .next (ftTelemetry s) := rfl
@[simp] theorem exec_ftImgFirst : exec .ftImgFirst s = .next (ftImgFirst s) := rfl
@[simp] theorem exec_ftImgLast : exec .ftImgLast s = .next (ftImgLast s) := rfl
@[simp] theorem exec_ftImgMid (tag : Byte) : exec (.ftImgMid tag) s = .next (ftImgMid tag s) := rfl
@[simp] theorem exec_statOff : exec .statOff s = .next (statOff s) := rfl
@[simp] theorem exec_statReady : exec .statReady s = .next (statReady s) := rfl
@[simp] theorem exec_statOverVoltage : exec .statOverVoltage s = .next (statOverVoltage s) := rfl
@[simp] theorem exec_statOverCurrent : exec .statOverCurrent s = .next (statOverCurrent s) := rfl
@[simp] theorem exec_statOn : exec .statOn s = .next (statOn s) := rfl
@[simp] theorem exec_statUnknown (x : Byte) : exec (.statUnknown x) s = .next (statUnknown x s) := rfl
@[simp] theorem exec_hemiLatS : exec .hemiLatS s = .next (hemiLatS s) := rfl
@[simp] theorem exec_hemiLonW : exec .hemiLonW s = .next (hemiLonW s) := rfl
@[simp] theorem exec_hemiOther (c : Coordinate) (h : Byte) : exec (.hemiOther c h) s = .next (hemiOther c h s) := rfl
@[simp] theorem exec_cmdSetMode (m : Mode) : exec (.cmdSetMode m) s = .next (cmdSetMode m s) := rfl
@[simp] theorem exec_cmdSetBypass (p : Bypass) : exec (.cmdSetBypass p) s = .next (cmdSetBypass p s) := rfl
@[simp] theorem exec_cmdResetCounters : exec .cmdResetCounters s = .next (cmdResetCounters s) := rfl
@[simp] theorem exec_cmdStop : exec .cmdStop s = .next (cmdStop s) := rfl
@[simp] theorem exec_cmdIllegal (w : Byte) : exec (.cmdIllegal w) s = .next (cmdIllegal w s) := rfl
@[simp] theorem exec_srcTransportError : exec .srcTransportError s = .next (srcTransportError s) := rfl

end

/-- Every token answers a next state, whatever the state. -/
theorem exec_next (i : Instr) (s : State) : ∃ t, exec i s = .next t := by
  cases i <;> exact ⟨_, rfl⟩

end Sys2Proof.Machine
end

