-- ==== Sys2Proof/Laws/Step.lean ====
section
/-! SUPPORT. What a step can be: one inversion lemma for the step, one for the token an input becomes. -/

namespace Sys2Proof.Machine

theorem acceptsInput_iff (s : State) : acceptsInput s = true ↔ s.run = .running ∧ s.refused = false := by
  simp [acceptsInput, and_comm]

/-- The token an input becomes, with the latch empty and the block taking inputs. -/
inductive InputToken (s : State) : Input → Instr → Prop where
  | raw (b : Byte) (h : s.bypass = .raw) : InputToken s (.byte b) (.rawBypass b)
  | rf (b : Byte) (h : s.bypass = .framed) (hm : s.mode = .rf) : InputToken s (.byte b) (decodeRf b)
  | rs (b : Byte) (h : s.bypass = .framed) (hm : s.mode = .rs422) : InputToken s (.byte b) (.rsData b)
  | cmd (w : Byte) : InputToken s (.cmd w) (decodeCommand w)
  | terr : InputToken s .terr .srcTransportError

/-- Every input decodes to its token. -/
theorem decode_input (s : State) (x : Input) :
    ∃ i bs, decode (inputContext s x) (inputBytes x) = .ok (i, bs) ∧ InputToken s x i := by
  cases x with
  | byte b =>
    cases hb : s.bypass
    · cases hm : s.mode
      · exact ⟨decodeRf b, [], by simp [inputContext, hb, hm, inputBytes, decode], .rf b hb hm⟩
      · exact ⟨.rsData b, [], by simp [inputContext, hb, hm, inputBytes, decode], .rs b hb hm⟩
    · exact ⟨.rawBypass b, [], by simp [inputContext, hb, inputBytes, decode], .raw b hb⟩
  | cmd w => exact ⟨_, [], rfl, .cmd w⟩
  | terr => exact ⟨_, [], rfl, .terr⟩

@[simp] theorem acceptsInput_setInputs (xs : List Input) (s : State) : acceptsInput (setInputs xs s) = acceptsInput s := rfl

@[simp] theorem inputContext_setInputs (xs : List Input) (s : State) (x : Input) :
    inputContext (setInputs xs s) x = inputContext s x := by cases x <;> rfl

theorem fetch_input {s : State} {x : Input} {rest : List Input} (h : s.unitToken = none) (hi : s.inputs = x :: rest) :
    fetch s = takeInput x (setInputs rest s) := by
  unfold fetch; rw [h]; dsimp only; rw [hi]

theorem fetch_latch {s : State} {c : TokenContext} {bs : List Byte} (h : s.unitToken = some (c, bs)) :
    fetch s = takeUnitToken c bs s := by
  unfold fetch; rw [h]

/-- The step of a state whose latch is empty: it waits, drops an input it does not take, or runs the input's token. -/
theorem step_input (s : State) (h : s.unitToken = none) :
    (s.inputs = [] ∧ step s = .next s) ∨
    (∃ x rest, s.inputs = x :: rest ∧ acceptsInput s = false ∧ step s = .next (setInputs rest s)) ∨
    (∃ x rest i, s.inputs = x :: rest ∧ acceptsInput s = true ∧ InputToken s x i ∧ step s = exec i (setInputs rest s)) := by
  cases hi : s.inputs with
  | nil => exact .inl ⟨rfl, by unfold step fetch; rw [h]; dsimp only; rw [hi]⟩
  | cons x rest =>
    refine .inr ?_
    by_cases hacc : acceptsInput s = true
    · obtain ⟨i, bs, hd, ht⟩ := decode_input s x
      refine .inr ⟨x, rest, i, rfl, hacc, ht, ?_⟩
      unfold step
      rw [fetch_input h hi]
      simp [takeInput, hacc, hd]
    · simp only [Bool.not_eq_true] at hacc
      refine .inl ⟨x, rest, rfl, hacc, ?_⟩
      unfold step
      rw [fetch_input h hi]
      simp [takeInput, hacc]

/-- The step of a state whose latch is filled: its bytes are dropped, it runs its first token, or it holds no token. -/
theorem step_latch (s : State) (c : TokenContext) (bs : List Byte) (h : s.unitToken = some (c, bs)) :
    (acceptsInput s = false ∧ step s = .next (setUnitToken none s)) ∨
    (acceptsInput s = true ∧ ∃ i rest, decode c bs = .ok (i, rest) ∧
      step s = exec i (setUnitToken (if rest = [] then none else some (c, rest)) s)) ∨
    (acceptsInput s = true ∧ ∃ c', step s = .fault (.noToken c')) := by
  unfold step
  rw [fetch_latch h]
  by_cases hacc : acceptsInput s = true
  · refine .inr ?_
    cases hd : decode c bs with
    | error e =>
      obtain ⟨c'⟩ := e
      exact .inr ⟨hacc, c', by simp [takeUnitToken, hacc, hd]⟩
    | ok r =>
      obtain ⟨i, rest⟩ := r
      refine .inl ⟨hacc, i, rest, rfl, ?_⟩
      cases rest <;> simp [takeUnitToken, hacc, hd]
  · simp only [Bool.not_eq_true] at hacc
    exact .inl ⟨hacc, by simp [takeUnitToken, hacc]⟩

end Sys2Proof.Machine
end

