-- ==== Sys2Proof/Laws/Completion.lean ====
section
/-! SUPPORT. Everything a completed frame can leave, and everything a step with an empty sub-unit latch can do: the inversion
lemmas from which invariants follow by cases. -/

namespace Sys2Proof.Machine

/-- What the completion of a candidate frame leaves, from the state `s` whose framer is already cleared. -/
inductive Completed (s : State) : State → Prop where
  | failed (o : FrameOutcome) (h : o ≠ .ok) : Completed s (reportOutcome o s)
  | telemetry (rec : TelemetryRecord) (gps : Option GpsFix) :
      Completed s (consumeFrame (clearExtractor (emit (.telemetry rec gps) (reportOutcome .ok s))))
  | chunk (seq : Byte) (buf slice : List Byte) (n : Nat) (hs : slice.length = 278)
      (hb : (buf = [] ∧ n = 0) ∨ (buf = s.imgBuf ∧ n = s.imgCount ∧ s.imgOpen = true))
      (hq : seq ≠ imgLast) (hn : n + 1 ≠ imgMaxChunks) :
      Completed s (consumeFrame { reportOutcome .ok s with imgOpen := true, imgCount := n + 1, imgBuf := buf ++ slice })
  | image (buf slice : List Byte) (n : Nat) (hs : slice.length = 278)
      (hb : (buf = [] ∧ n = 0) ∨ (buf = s.imgBuf ∧ n = s.imgCount ∧ s.imgOpen = true)) :
      Completed s (consumeFrame (closeAssembly (countImage (emit (.image (buf ++ slice)) (reportOutcome .ok s)))))

theorem finishFrame_completed (o : FrameOutcome) (fb : Memory) (s : State) (h : o = .ok → fb.length = 284) :
    Completed s (finishFrame o fb s) := by
  rcases finishFrame_cases o fb s h with ⟨ho, e⟩ | ⟨_, rec, gps, e⟩ | ⟨ho, seq, e⟩
  · rw [e]; exact .failed o ho
  · rw [e]; exact .telemetry rec gps
  · have hl : (loadFrame fb (reportOutcome .ok s)).fb.length = 284 := h ho
    obtain ⟨sl, hsl, hlen⟩ := imageChunk_ne_refuse hl
    rw [e]
    rcases imageChunk_cases seq (loadFrame fb (reportOutcome .ok s)) with hr | ⟨slice, buf, n, hm, hb, hd⟩
    · obtain ⟨rec, hrec⟩ : ∃ c, imageChunk seq (loadFrame fb (reportOutcome .ok s)) = consumeFrame c :=
        ⟨_, by unfold imageChunk; rw [hsl]⟩
      have := congrArg (fun t => t.fb.length) (hr.symm.trans hrec)
      exact absurd (hl.symm.trans this) (by simp)
    · rw [hsl] at hm; cases hm
      have hb' : (buf = [] ∧ n = 0) ∨ (buf = s.imgBuf ∧ n = s.imgCount ∧ s.imgOpen = true) := by
        rcases hb with ⟨a, b, _⟩ | ⟨a, b, c, _⟩
        · exact .inl ⟨a, b⟩
        · exact .inr ⟨a, b, c⟩
      rcases hd with ⟨e', hq, hn⟩ | ⟨e', _⟩
      · rw [e']; exact .chunk seq buf sl n hlen hb' hq hn
      · rw [e']; exact .image buf sl n hlen hb'

theorem completeRf_completed (r : List Byte) (ov : Bool) (s : State) :
    Completed (clearDestuffer s) (completeRf r ov s) := by
  obtain ⟨d, amb, e, _⟩ := completeRf_eq r ov s
  rw [e]
  exact finishFrame_completed _ _ _ fun h => (rfError_none h).2.2.1

theorem completeRs_completed (raw : List Byte) (s : State) (h : raw.length = 282) : Completed s (completeRs raw s) :=
  finishFrame_completed _ _ _ fun _ => by simp [h]

/-- The completion of a frame takes no input. -/
theorem completed_inputs {s t : State} (h : Completed s t) : t.inputs = s.inputs := by
  cases h <;> simp [reportOutcome]

/-- What a token that is an input can do, from the state without that input. -/
inductive TokenEffect (s : State) : State → Prop where
  | nothing : TokenEffect s s
  | begin (hb : s.bypass = .framed) (hm : s.mode = .rf) : TokenEffect s (beginFrame s)
  | append (b : Byte) (hb : s.bypass = .framed) (hm : s.mode = .rf) (hi : s.inside = true)
      (hl : s.acc.length - 1 < rfBodyCap) : TokenEffect s (appendAcc b s)
  | pastCap (hb : s.bypass = .framed) (hm : s.mode = .rf) (hi : s.inside = true) : TokenEffect s (markOver s)
  | frameRf (t : State) (hb : s.bypass = .framed) (hm : s.mode = .rf) (hi : s.inside = true)
      (h : Completed (clearDestuffer (clearFramer s)) t) : TokenEffect s t
  | appendRs (b : Byte) (hb : s.bypass = .framed) (hm : s.mode = .rs422) (hl : s.acc.length ≠ 281) :
      TokenEffect s (appendAcc b s)
  | frameRs (t : State) (hb : s.bypass = .framed) (hm : s.mode = .rs422) (hl : s.acc.length = 281)
      (h : Completed (clearFramer s) t) : TokenEffect s t
  | raw (b : Byte) (hb : s.bypass = .raw) : TokenEffect s (rawBypass b s)
  | setMode (m : Mode) : TokenEffect s (cmdSetMode m s)
  | setBypass (p : Bypass) : TokenEffect s (cmdSetBypass p s)
  | zero : TokenEffect s (zeroCounters s)
  | stop : TokenEffect s (setRun .stopped s)
  | illegal : TokenEffect s (refuse s)
  | transportError : TokenEffect s (takeTransportError s)

/-- A token that is an input takes no further input. -/
theorem tokenEffect_inputs {s t : State} (h : TokenEffect s t) : t.inputs = s.inputs := by
  cases h with
  | frameRf _ _ _ _ h => have e := completed_inputs h; simpa using e
  | frameRs _ _ _ _ h => have e := completed_inputs h; simpa using e
  | _ => rfl

theorem rsData_effect (b : Byte) (s : State) (hb : s.bypass = .framed) (hm : s.mode = .rs422) :
    TokenEffect s (rsData b s) := by
  unfold rsData
  split
  · rename_i h
    have hl : s.acc.length = 281 := by simpa [rs422Body] using h
    exact .frameRs _ hb hm hl (completeRs_completed _ _ h)
  · rename_i h
    exact .appendRs b hb hm (by simpa [rs422Body] using h)

theorem rfByte_effect (b : Byte) (s : State) (hb : s.bypass = .framed) (hm : s.mode = .rf) :
    ∃ t, exec (decodeRf b) s = .next t ∧ TokenEffect s t := by
  unfold decodeRf
  split
  · exact ⟨_, rfl, .begin hb hm⟩
  · split
    · refine ⟨_, rfl, ?_⟩
      unfold rfEnd
      split
      · rename_i hi
        exact .frameRf _ hb hm hi (completeRf_completed _ _ _)
      · exact .nothing
    · refine ⟨_, rfl, ?_⟩
      unfold rfData
      split
      · rename_i hi
        split
        · rename_i hl; exact .append _ hb hm hi hl
        · exact .pastCap hb hm hi
      · exact .nothing

theorem command_effect (w : Byte) (s : State) : ∃ t, exec (decodeCommand w) s = .next t ∧ TokenEffect s t := by
  unfold decodeCommand
  split
  · split
    · exact ⟨_, rfl, .setMode _⟩
    · split
      · exact ⟨_, rfl, .setBypass _⟩
      · split
        · exact ⟨_, rfl, .zero⟩
        · split
          · exact ⟨_, rfl, .stop⟩
          · exact ⟨_, rfl, .illegal⟩
  · exact ⟨_, rfl, .illegal⟩

/-- Every input's token answers a next state, and this is what it can be. -/
theorem inputToken_effect {s : State} {x : Input} {i : Instr} (h : InputToken s x i) (rest : List Input) :
    ∃ t, exec i (setInputs rest s) = .next t ∧ TokenEffect (setInputs rest s) t := by
  cases h with
  | raw b hb => exact ⟨_, rfl, .raw b hb⟩
  | rf b hb hm => exact rfByte_effect b _ hb hm
  | rs b hb hm => exact ⟨_, rfl, rsData_effect b _ hb hm⟩
  | cmd w => exact command_effect w _
  | terr => exact ⟨_, rfl, .transportError⟩

/-- Everything a step with an empty sub-unit latch can do. -/
theorem step_cases {s t : State} (hu : s.unitToken = none) (h : step s = .next t) :
    t = s ∨ ∃ x rest, s.inputs = x :: rest ∧
      (t = setInputs rest s ∨
        ∃ i, acceptsInput s = true ∧ InputToken s x i ∧ exec i (setInputs rest s) = .next t ∧
          TokenEffect (setInputs rest s) t) := by
  rcases step_input s hu with ⟨_, e⟩ | ⟨x, rest, hi, _, e⟩ | ⟨x, rest, i, hi, ha, ht, e⟩
  · rw [e] at h; cases h; exact .inl rfl
  · rw [e] at h; cases h; exact .inr ⟨x, rest, hi, .inl rfl⟩
  · obtain ⟨t', e', hf⟩ := inputToken_effect ht rest
    rw [e, e'] at h; cases h
    exact .inr ⟨x, rest, hi, .inr ⟨i, ha, ht, e', hf⟩⟩

/-- A step with an empty sub-unit latch takes exactly the first input, if there is one. -/
theorem step_inputs {s t : State} (hu : s.unitToken = none) (h : step s = .next t) : t.inputs = s.inputs.tail := by
  rcases step_input s hu with ⟨hi, e⟩ | ⟨x, rest, hi, _, e⟩ | ⟨x, rest, i, hi, _, ht, e⟩
  · rw [e] at h; cases h; rw [hi]; rfl
  · rw [e] at h; cases h; rw [hi]; rfl
  · obtain ⟨t', e', hf⟩ := inputToken_effect ht rest
    rw [e, e'] at h; cases h
    rw [tokenEffect_inputs hf, hi]; rfl

end Sys2Proof.Machine
end

