-- ==== Sys2Proof/Laws/Crc.lean ====
section
/-! SUPPORT. How a checksum goes on over more bytes, and over zeros. -/

namespace Sys2Proof.Machine

theorem crc16_append (a b : List Byte) : crc16 (a ++ b) = b.foldl crcByte (crc16 a) := List.foldl_append

theorem crcByte_zero : crcByte 0 0 = 0 := by decide

/-- Zeros leave a register of zero at zero. -/
theorem crcByte_zeros (n : Nat) : (List.replicate n (0 : Byte)).foldl crcByte 0 = 0 := by
  induction n with
  | zero => rfl
  | succ n ih => rw [List.replicate_succ, List.foldl_cons, crcByte_zero, ih]

/-- A byte sequence with checksum 0 keeps it over any zeros after it. -/
theorem crc16_append_zeros {a : List Byte} (h : crc16 a = 0) (n : Nat) : crc16 (a ++ List.replicate n 0) = 0 := by
  rw [crc16_append, h, crcByte_zeros]

/-- The verdict from the bytes it covers and the word at 280. -/
theorem crcOk_of {fb s : Memory} {ck : Word16} (hs : memRead fb crcLo crcLen = some s) (hc : u16be fb cksumOff = some ck) :
    crcOk fb = (crc16 s == ck) := by
  unfold crcOk
  rw [hs, hc]

end Sys2Proof.Machine
end

