-- ==== Sys2Proof/Laws/Decode.lean ====
section
/-! SUPPORT. What the decoder reads in each context, one equation each. -/

namespace Sys2Proof

open Sys2Proof.Machine

/-- A fact about every byte from the 256 numerals, which `decide` can go through. -/
theorem forall_byte {P : Byte → Prop} (h : ∀ n < 256, P (BitVec.ofNat 8 n)) (b : Byte) : P b := by
  have := h b.toNat b.isLt
  rwa [BitVec.ofNat_toNat, BitVec.setWidth_eq] at this

section
variable (b c : Byte) (bs : List Byte)

@[simp] theorem decode_signal : decode .signal bs = .ok (.srcTransportError, bs) := rfl
@[simp] theorem decode_streamRf : decode .streamRf (b :: bs) = .ok (decodeRf b, bs) := rfl
@[simp] theorem decode_streamRs422 : decode .streamRs422 (b :: bs) = .ok (.rsData b, bs) := rfl
@[simp] theorem decode_streamRaw : decode .streamRaw (b :: bs) = .ok (.rawBypass b, bs) := rfl
@[simp] theorem decode_tag : decode .tag (b :: bs) = .ok (decodeTag b, bs) := rfl
@[simp] theorem decode_status : decode .status (b :: bs) = .ok (decodeStatus b, bs) := rfl
@[simp] theorem decode_latHemisphere :
    decode .latHemisphere (b :: bs) = .ok (decodeHemisphere .latitude b, bs) := rfl
@[simp] theorem decode_lonHemisphere :
    decode .lonHemisphere (b :: bs) = .ok (decodeHemisphere .longitude b, bs) := rfl
@[simp] theorem decode_command : decode .command (b :: bs) = .ok (decodeCommand b, bs) := rfl

/-- A lone escape byte is a truncated pair (R106). -/
theorem decode_destuff_trunc : decode .destuff [escByte] = .ok (.dsEscTrunc, []) := rfl

/-- An escape byte with a byte after it is a pair (R73). -/
theorem decode_destuff_pair : decode .destuff (escByte :: c :: bs) = .ok (decodeEscape c, bs) := rfl

/-- Any other byte is a literal (R101). -/
theorem decode_destuff_lit (h : b ≠ escByte) : decode .destuff (b :: bs) = .ok (.dsLit b, bs) := by
  have e : decodeDestuff (b :: bs) = some (.dsLit b, bs) := by rw [decodeDestuff.eq_def]; exact if_neg h
  rw [decode.eq_def]
  simp only [e]

end

end Sys2Proof
end

