-- ==== Sys2Proof/Laws/PerInstr.lean ====
section
/-! SUPPORT. The family TokenLength: how many bytes each token's encoding has (30_encoding.md R88). -/

namespace Sys2Proof.Laws

/-- R88: a token is one byte long, an escape pair two bytes, the transport-error signal none. -/
def TokenLength.Statement (i : Instr) : Prop :=
  (encode i).length =
    match contextOf i, i with
    | .signal, _ => 0
    | .destuff, .dsLit _ => 1
    | .destuff, .dsEscTrunc => 1
    | .destuff, _ => 2
    | _, _ => 1

theorem TokenLength.rfStart : TokenLength.Statement .rfStart := rfl
theorem TokenLength.rfEnd : TokenLength.Statement .rfEnd := rfl
theorem TokenLength.rfData (b : Byte) : TokenLength.Statement (.rfData b) := rfl
theorem TokenLength.rsData (b : Byte) : TokenLength.Statement (.rsData b) := rfl
theorem TokenLength.rawBypass (b : Byte) : TokenLength.Statement (.rawBypass b) := rfl
theorem TokenLength.dsLit (b : Byte) : TokenLength.Statement (.dsLit b) := rfl
theorem TokenLength.dsEscCA : TokenLength.Statement .dsEscCA := rfl
theorem TokenLength.dsEscEF : TokenLength.Statement .dsEscEF := rfl
theorem TokenLength.dsEscBD : TokenLength.Statement .dsEscBD := rfl
theorem TokenLength.dsEscBad (code : Byte) : TokenLength.Statement (.dsEscBad code) := rfl
theorem TokenLength.dsEscTrunc : TokenLength.Statement .dsEscTrunc := rfl
theorem TokenLength.ftTelemetry : TokenLength.Statement .ftTelemetry := rfl
theorem TokenLength.ftImgFirst : TokenLength.Statement .ftImgFirst := rfl
theorem TokenLength.ftImgLast : TokenLength.Statement .ftImgLast := rfl
theorem TokenLength.ftImgMid (tag : Byte) : TokenLength.Statement (.ftImgMid tag) := rfl
theorem TokenLength.statOff : TokenLength.Statement .statOff := rfl
theorem TokenLength.statReady : TokenLength.Statement .statReady := rfl
theorem TokenLength.statOverVoltage : TokenLength.Statement .statOverVoltage := rfl
theorem TokenLength.statOverCurrent : TokenLength.Statement .statOverCurrent := rfl
theorem TokenLength.statOn : TokenLength.Statement .statOn := rfl
theorem TokenLength.statUnknown (x : Byte) : TokenLength.Statement (.statUnknown x) := rfl
theorem TokenLength.hemiLatS : TokenLength.Statement .hemiLatS := rfl
theorem TokenLength.hemiLonW : TokenLength.Statement .hemiLonW := rfl
theorem TokenLength.hemiOther (c : Coordinate) (h : Byte) : TokenLength.Statement (.hemiOther c h) := by cases c <;> rfl
theorem TokenLength.cmdSetMode (m : Mode) : TokenLength.Statement (.cmdSetMode m) := by cases m <;> rfl
theorem TokenLength.cmdSetBypass (p : Bypass) : TokenLength.Statement (.cmdSetBypass p) := by cases p <;> rfl
theorem TokenLength.cmdResetCounters : TokenLength.Statement .cmdResetCounters := rfl
theorem TokenLength.cmdStop : TokenLength.Statement .cmdStop := rfl
theorem TokenLength.cmdIllegal (w : Byte) : TokenLength.Statement (.cmdIllegal w) := rfl
theorem TokenLength.srcTransportError : TokenLength.Statement .srcTransportError := rfl

end Sys2Proof.Laws
end

