-- ==== Sys2Proof/Laws/Run.lean ====
section
/-! SUPPORT. Runs: one step more, two runs after one another, an invariant along a run, and what a run shows. -/

namespace Sys2Proof.Machine

@[simp] theorem run_zero (s : State) : run 0 s = .next s := rfl

theorem run_succ {n : Nat} {s u : State} (h : step s = .next u) : run (n + 1) s = run n u := by
  rw [run, h]

/-- A run that goes through took a first step that goes through. -/
theorem run_succ_next {n : Nat} {s t : State} (h : run (n + 1) s = .next t) : ∃ u, step s = .next u ∧ run n u = .next t := by
  cases hs : step s with
  | next u => exact ⟨u, rfl, run_succ hs ▸ h⟩
  | fault f => rw [run, hs] at h; cases h
  | refused r => rw [run, hs] at h; cases h

/-- A run of k steps and then one of n more. -/
theorem run_add {k : Nat} : ∀ {n : Nat} {s u : State}, run k s = .next u → run (k + n) s = run n u := by
  induction k with
  | zero => intro n s u h; cases h; rw [Nat.zero_add]
  | succ k ih =>
    intro n s u h
    obtain ⟨v, hv, hu⟩ := run_succ_next h
    rw [Nat.add_right_comm, run_succ hv, ih hu]

/-- What every step keeps, every run keeps. -/
theorem run_invariant {P : State → Prop} (hstep : ∀ s t, P s → step s = .next t → P t) :
    ∀ (n : Nat) {s t : State}, P s → run n s = .next t → P t
  | 0, _, _, hp, h => by cases h; exact hp
  | n + 1, _, _, hp, h =>
    have ⟨_, hu, ht⟩ := run_succ_next h
    run_invariant hstep n (hstep _ _ hp hu) ht

theorem observation_refused {s : State} (h : s.refused = true) : observation s = none := if_pos (.inl h)

/-- A run that has an input left to take shows nothing. -/
theorem observation_pending {s : State} (h : s.inputs ≠ []) : observation s = none := if_pos (.inr h)

theorem observation_ended {s : State} (h : s.refused = false) (hi : s.inputs = []) :
    observation s = some (s.events, statusView s) :=
  if_neg fun e => e.elim (by rw [h]; decide) fun hn => hn hi

@[simp] theorem present_reset_inputs (xs : List Input) : (present xs State.reset).inputs = xs := rfl

@[simp] theorem present_reset_unitToken (xs : List Input) : (present xs State.reset).unitToken = none := rfl

end Sys2Proof.Machine
end

