-- ==== Sys2Proof/Tests/Slice0.lean ====
section
/-! SUPPORT. The author's own tests: ill-formed terms, decoded words, vectors of 95_test_vectors.md and 41_crc.md, and for every
obligation with hypotheses a state and operands that meet them. Expected values come from spec/, named at each group. -/

namespace Sys2Proof.Tests

open Sys2Proof Sys2Proof.Machine

/-! ### Well-formedness: each check refuses an ill-formed term -/

theorem test_wf_rfData_start : (Instr.rfData 0xCA).wellFormed = false := by decide
theorem test_wf_rfData_end : (Instr.rfData 0xEF).wellFormed = false := by decide
theorem test_wf_rfData : (Instr.rfData 0xBD).wellFormed = true := by decide
theorem test_wf_dsLit : (Instr.dsLit 0xBD).wellFormed = false := by decide
theorem test_wf_dsEscBad_ca : (Instr.dsEscBad 0xDC).wellFormed = false := by decide
theorem test_wf_dsEscBad_ef : (Instr.dsEscBad 0xDE).wellFormed = false := by decide
theorem test_wf_dsEscBad_bd : (Instr.dsEscBad 0xDB).wellFormed = false := by decide
theorem test_wf_imgMid_telemetry : (Instr.ftImgMid 0xFF).wellFormed = false := by decide
theorem test_wf_imgMid_first : (Instr.ftImgMid 0x00).wellFormed = false := by decide
theorem test_wf_imgMid_last : (Instr.ftImgMid 0x1A).wellFormed = false := by decide
theorem test_wf_statUnknown : (Instr.statUnknown 4).wellFormed = false := by decide
theorem test_wf_hemi_lat : (Instr.hemiOther .latitude 0x53).wellFormed = false := by decide
theorem test_wf_hemi_lon : (Instr.hemiOther .longitude 0x57).wellFormed = false := by decide
theorem test_wf_hemi_lat_w : (Instr.hemiOther .latitude 0x57).wellFormed = true := by decide
theorem test_wf_cmdIllegal : (Instr.cmdIllegal 0x30).wellFormed = false := by decide

/-! ### Decoding: words written out from 30_encoding.md R74, R76 to R78, R82, R83 -/

theorem test_decode_rfStart : decode .streamRf [0b11001010] = .ok (.rfStart, []) := rfl
theorem test_decode_rfEnd : decode .streamRf [0b11101111] = .ok (.rfEnd, []) := rfl
theorem test_decode_rfData : decode .streamRf [0b10111101] = .ok (.rfData 0xBD, []) := rfl
theorem test_decode_rsData : decode .streamRs422 [0b11101111] = .ok (.rsData 0xEF, []) := rfl
theorem test_decode_rawBypass : decode .streamRaw [0b11001010] = .ok (.rawBypass 0xCA, []) := rfl
theorem test_decode_dsLit : decode .destuff [0b11011100] = .ok (.dsLit 0xDC, []) := rfl
theorem test_decode_dsEscCA : decode .destuff [0b10111101, 0b11011100, 7] = .ok (.dsEscCA, [7]) := rfl
theorem test_decode_dsEscEF : decode .destuff [0b10111101, 0b11011110] = .ok (.dsEscEF, []) := rfl
theorem test_decode_dsEscBD : decode .destuff [0b10111101, 0b11011011] = .ok (.dsEscBD, []) := rfl
theorem test_decode_dsEscBad : decode .destuff [0b10111101, 0b10111101] = .ok (.dsEscBad 0xBD, []) := rfl
theorem test_decode_dsEscTrunc : decode .destuff [0b10111101] = .ok (.dsEscTrunc, []) := rfl
theorem test_decode_ftTelemetry : decode .tag [0b11111111] = .ok (.ftTelemetry, []) := rfl
theorem test_decode_ftImgFirst : decode .tag [0b00000000] = .ok (.ftImgFirst, []) := rfl
theorem test_decode_ftImgLast : decode .tag [0b00011010] = .ok (.ftImgLast, []) := rfl
theorem test_decode_ftImgMid : decode .tag [0b00011011] = .ok (.ftImgMid 0x1B, []) := rfl
theorem test_decode_statOff : decode .status [0b00000000] = .ok (.statOff, []) := rfl
theorem test_decode_statReady : decode .status [0b00000001] = .ok (.statReady, []) := rfl
theorem test_decode_statOverVoltage : decode .status [0b00000010] = .ok (.statOverVoltage, []) := rfl
theorem test_decode_statOverCurrent : decode .status [0b00000011] = .ok (.statOverCurrent, []) := rfl
theorem test_decode_statOn : decode .status [0b00000100] = .ok (.statOn, []) := rfl
theorem test_decode_statUnknown : decode .status [0b00000101] = .ok (.statUnknown 5, []) := rfl
theorem test_decode_hemiLatS : decode .latHemisphere [0b01010011] = .ok (.hemiLatS, []) := rfl
theorem test_decode_hemiLonW : decode .lonHemisphere [0b01010111] = .ok (.hemiLonW, []) := rfl
theorem test_decode_hemiOther_lat : decode .latHemisphere [0b01010111] = .ok (.hemiOther .latitude 0x57, []) := rfl
theorem test_decode_hemiOther_lon : decode .lonHemisphere [0b01010011] = .ok (.hemiOther .longitude 0x53, []) := rfl
theorem test_decode_cmdSetMode_rf : decode .command [0b00010000] = .ok (.cmdSetMode .rf, []) := rfl
theorem test_decode_cmdSetMode_rs422 : decode .command [0b00010001] = .ok (.cmdSetMode .rs422, []) := rfl
theorem test_decode_cmdSetBypass : decode .command [0b00100001] = .ok (.cmdSetBypass .raw, []) := rfl
theorem test_decode_cmdResetCounters : decode .command [0b00110000] = .ok (.cmdResetCounters, []) := rfl
theorem test_decode_cmdStop : decode .command [0b01000000] = .ok (.cmdStop, []) := rfl
theorem test_decode_cmdIllegal_arg : decode .command [0b01000001] = .ok (.cmdIllegal 0x41, []) := rfl
theorem test_decode_cmdIllegal_field : decode .command [0b00010010] = .ok (.cmdIllegal 0x12, []) := rfl
theorem test_decode_signal : decode .signal [] = .ok (.srcTransportError, []) := rfl
theorem test_decode_noByte : decode .tag [] = .error (.noByte .tag) := rfl

theorem test_tableWord_pair : decodeTableWord 16 0xBDDE = some .dsEscEF := by decide
theorem test_tableWord_trunc : decodeTableWord 8 0xBD = some .dsEscTrunc := by decide
theorem test_tableWord_signal : decodeTableWord 0 0 = some .srcTransportError := by decide
theorem test_tableWord_other : decodeTableWord 16 0xCADC = none := by decide

/-! ### Small states and frames -/

/-- The reset state with mode RF, the start of every vector (95_test_vectors.md). -/
def rfState : State := { State.reset with mode := .rf }

/-- The reset state with mode RS422. -/
def rsState : State := { State.reset with mode := .rs422 }

/-- `MKFRAME` with reserved bytes 0 and the bytes d at offset 3, then zeros. -/
def frameWith (tag : Byte) (d : List Byte) : List Byte := mkFrame tag (d ++ List.replicate (277 - d.length) 0) 0 0

/-- TEL1 (95_test_vectors.md): IOU[0] = 00 FA, PMU NTC0 = 80 00. -/
def tel1 : List Byte :=
  frameWith 0xFF (List.replicate 6 0 ++ [0x00, 0xFA] ++ List.replicate 101 0 ++ [0x80, 0x00])

/-- TEL2: the GPS block of TV-S14. -/
def tel2 : List Byte :=
  frameWith 0xFF (List.replicate 134 0 ++ [0x0C, 0x22, 0x38, 0x4E, 0x40, 0x90, 0x04, 0x7E, 0x6B, 0x3F, 0xE9, 0xFB, 0x4E,
    0x40, 0xC4, 0xC3, 0x40, 0x00, 0x00, 0x00, 0x00, 0x57])

/-- A valid frame whose checksum is 00 00: the tag, its own checksum, then zeros (R120: a register of zero stays zero). -/
def quietFrame (tag : Byte) : List Byte := [0xCA, 0x00, tag] ++ crcBe [tag] ++ List.replicate 278 0 ++ [0xEF]

/-- That frame with the low bit of its checksum flipped. -/
def quietBad (tag : Byte) : List Byte := [0xCA, 0x00, tag] ++ crcBe [tag] ++ List.replicate 276 0 ++ [0x01, 0x00, 0xEF]

/-- The events after an outcome that goes on. -/
def eventsAfter : Host.Outcome State Fault Refusal → Option (List Event)
  | .next s => some s.events
  | .fault _ => none
  | .refused _ => none

/-- A test of the state after an outcome that goes on. -/
def holdsAfter (p : State → Bool) : Host.Outcome State Fault Refusal → Bool
  | .next s => p s
  | .fault _ => false
  | .refused _ => false

/-- The lengths of the images among the events. -/
def imageLengths (es : List Event) : List Nat :=
  es.filterMap fun
    | .image b => some b.length
    | .outcome _ => none
    | .telemetry _ _ => none
    | .raw _ => none
    | .transportError => none

/-- The records among the events. -/
def records (es : List Event) : List (TelemetryRecord × Option GpsFix) :=
  es.filterMap fun
    | .telemetry r g => some (r, g)
    | .outcome _ => none
    | .image _ => none
    | .raw _ => none
    | .transportError => none

/-! ### CRC vectors (95_test_vectors.md TV-D-CRC, named frames) -/

theorem test_crc_empty : crc16 [] = 0x0000 := by decide
theorem test_crc_01 : crc16 [0x01] = 0x1021 := by decide
theorem test_crc_FF : crc16 [0xFF] = 0x1EF0 := by decide
theorem test_crc_80 : crc16 [0x80] = 0x9188 := by decide
theorem test_crc_FFFF : crc16 [0xFF, 0xFF] = 0x1D0F := by decide +kernel
theorem test_crc_z00 : crc16 (List.replicate 278 0) = 0x0000 := crc16_append_zeros (a := []) rfl 278

/-! ### De-stuffer vectors (TV-D-DS, TV-S2, TV-S3) -/

theorem test_destuff_noRescan : destuffOf [0xCA, 0xBD, 0xDB, 0xDC, 0xEF] = some [0xCA, 0xBD, 0xDC, 0xEF] := by decide
theorem test_destuff_pairs : destuffOf [0xBD, 0xDB, 0xBD, 0xDC, 0xBD, 0xDE] = some [0xBD, 0xCA, 0xEF] := by decide
theorem test_destuff_bad : destuffOf [0xCA, 0xBD, 0xEF] = none := by decide
theorem test_destuff_trunc : destuffOf [0x01, 0xBD] = none := by decide
theorem test_stuff : stuff [0xCA, 0xEF, 0xBD, 0x00] = [0xBD, 0xDC, 0xBD, 0xDE, 0xBD, 0xDB, 0x00] := by decide

theorem test_dsLit : holdsAfter (fun s => s.dsOut == [9, 0xDC] && s.dsPos == 4)
    (exec (.dsLit 0xDC) { rfState with dsOut := [9], dsPos := 3 }) = true := by decide
theorem test_dsEscCA : holdsAfter (fun s => s.dsOut == [0xCA] && s.dsPos == 2) (exec .dsEscCA rfState) = true := by decide
theorem test_dsEscEF : holdsAfter (fun s => s.dsOut == [0xEF] && s.dsPos == 2) (exec .dsEscEF rfState) = true := by decide
theorem test_dsEscBD : holdsAfter (fun s => s.dsOut == [0xBD] && s.dsPos == 2) (exec .dsEscBD rfState) = true := by decide
theorem test_dsEscBad : holdsAfter (fun s => s.dsAmbiguous && s.dsOut == []) (exec (.dsEscBad 0xBD) rfState) = true := by decide
theorem test_dsEscTrunc : holdsAfter (fun s => s.dsAmbiguous && s.dsOut == []) (exec .dsEscTrunc rfState) = true := by decide

/-! ### Framer vectors (TV-D-FR, TV-S7) -/

theorem test_rfStart : holdsAfter (fun s => s.acc == [0xCA] && s.inside)
    (exec .rfStart { rfState with inside := true, acc := [0xCA, 1, 2] }) = true := by decide
theorem test_rfEnd_outside : exec .rfEnd rfState = .next rfState := rfl
theorem test_rfEnd_short : eventsAfter (exec .rfEnd { rfState with inside := true, acc := [0xCA, 1, 2] }) =
    some [.outcome .lengthInvalid] := by decide
theorem test_rfData_outside : exec (.rfData 0x11) rfState = .next rfState := rfl
theorem test_rsData_appends : holdsAfter (fun s => s.acc == [0xEF, 0xCA]) (exec (.rsData 0xCA) { rsState with acc := [0xEF] }) =
    true := by decide
theorem test_rawBypass : eventsAfter (exec (.rawBypass 0xCA) rfState) = some [.raw 0xCA] := by decide

/-! ### Telemetry vectors (TV-S12 to TV-S14, TV-D-TEL) -/

theorem test_s16_negative : s16be [0xFF, 0x38] 0 = some (-200) := by decide
theorem test_field_fail : readingOf .ten true 32767 = .fail := by decide
theorem test_field_noFail : readingOf .hundred false (-32768) = .val (-32768) .hundred := by decide
theorem test_field_value : readingValue (.val (-32767) .hundred) = some (-32767 / 100) := by norm_num [readingValue, scaleDivisor]
theorem test_coord_longitude : convertCoord 0x40C4C34000000000 = .finite 0x405AA08888888889 := by decide +kernel
theorem test_coord_nan : convertCoord 0x7FF8000000000000 = .nonfinite := by decide

theorem test_statOff : holdsAfter (fun s => s.pduStatuses == [.off]) (exec .statOff rfState) = true := by decide
theorem test_statReady : holdsAfter (fun s => s.pduStatuses == [.ready]) (exec .statReady rfState) = true := by decide
theorem test_statOverVoltage : holdsAfter (fun s => s.pduStatuses == [.overVoltage])
    (exec .statOverVoltage rfState) = true := by decide
theorem test_statOverCurrent : holdsAfter (fun s => s.pduStatuses == [.overCurrent])
    (exec .statOverCurrent rfState) = true := by decide
theorem test_statOn : holdsAfter (fun s => s.pduStatuses == [.on]) (exec .statOn rfState) = true := by decide
theorem test_statUnknown : holdsAfter (fun s => s.pduStatuses == [.off, .unknown 7])
    (exec (.statUnknown 7) { rfState with pduStatuses := [.off] }) = true := by decide
theorem test_hemiLatS : holdsAfter (fun s => s.latitude == .finite 0xC024D66306EEBFF5)
    (exec .hemiLatS { rfState with latitude := .finite 0x4024D66306EEBFF5 }) = true := by decide
theorem test_hemiLonW : holdsAfter (fun s => s.longitude == .finite 0xC05AA08888888889)
    (exec .hemiLonW { rfState with longitude := .finite 0x405AA08888888889 }) = true := by decide
theorem test_hemiOther : exec (.hemiOther .latitude 0x4E) rfState = .next rfState := rfl

/-! ### Image vectors (TV-S9 to TV-S11, R234 to R237) -/

/-- A state with a chunk of tag t in FB and n chunks of zeros in the open assembly. -/
def chunkState (t : Byte) (d : List Byte) (n : Nat) : State :=
  { rfState with fb := frameWith t d, imgOpen := n != 0, imgCount := n, imgBuf := List.replicate (278 * n) 0 }

theorem test_imgFirst : holdsAfter (fun s => s.imgOpen && s.imgCount == 1 && s.imgBuf.length == 278 && s.imgBuf.head? == some 0x11)
    (exec .ftImgFirst (chunkState 0x00 [0x11] 1)) = true := by decide +kernel
theorem test_imgLast : holdsAfter (fun s => !s.imgOpen && s.imgBuf == [] && imageLengths s.events == [556])
    (exec .ftImgLast (chunkState 0x1A [] 1)) = true := by decide +kernel
theorem test_imgMid_opens : holdsAfter (fun s => s.imgOpen && s.imgCount == 1 && s.events == [])
    (exec (.ftImgMid 0x05) (chunkState 0x05 [] 0)) = true := by decide +kernel
/-- The 27th chunk on a shortened buffer: the count alone closes the assembly (R236). -/
theorem test_imgMid_closes : holdsAfter (fun s => !s.imgOpen && s.imgCount == 0 && imageLengths s.events == [279])
    (exec (.ftImgMid 0x05) { chunkState 0x05 [] 26 with imgBuf := [7] }) = true := by decide +kernel

/-! ### Control vectors (R271 to R276, R252) -/

theorem test_cmdSetMode : holdsAfter (fun s => s.mode == .rs422 && s.acc == [] && !s.inside)
    (exec (.cmdSetMode .rs422) { rfState with inside := true, acc := [0xCA, 1] }) = true := by decide
theorem test_cmdSetBypass : holdsAfter (fun s => s.bypass == .raw && s.mode == .rf && s.acc == [])
    (exec (.cmdSetBypass .raw) { rfState with inside := true, acc := [0xCA, 1] }) = true := by decide
theorem test_cmdResetCounters : holdsAfter (fun s => s.cntFrames == 0 && s.cntCrcFail == 0 && s.acc == [0xCA])
    (exec .cmdResetCounters { rfState with cntFrames := 5, cntCrcFail := 2, acc := [0xCA] }) = true := by decide
theorem test_cmdStop : holdsAfter (fun s => s.run == .stopped && s.events == []) (exec .cmdStop rfState) = true := by decide
theorem test_cmdIllegal : exec (.cmdIllegal 0x31) rfState = .next { rfState with refused := true } := rfl
theorem test_transportError : holdsAfter (fun s => s.run == .faulted && s.events == [.transportError])
    (exec .srcTransportError rfState) = true := by decide
theorem test_counter_wraps : holdsAfter (fun s => s.cntFrames == 0 && s.cntLenFail == 0)
    (exec .rfEnd { rfState with inside := true, acc := [0xCA], cntFrames := 0xFFFFFFFF, cntLenFail := 0xFFFFFFFF }) = true := by
  decide

/-! ### Placed words run -/

theorem test_placed_tag : holdsAfter (fun s => imageLengths s.events == [278]) (step (State.reset.withFetchWord 8 0x1A)) = true := by
  decide +kernel
theorem test_placed_pair : holdsAfter (fun s => s.dsOut == [0xCA]) (step (State.reset.withFetchWord 16 0xBDDC)) = true := by
  decide
theorem test_placed_command : holdsAfter (fun s => s.mode == .rs422) (step (State.reset.withFetchWord 8 0x11)) = true := by
  decide
theorem test_placed_signal : holdsAfter (fun s => s.run == .faulted) (step (State.reset.withFetchWord 0 0)) = true := by
  decide

/-! ### Witnesses: states and operands that meet the hypotheses of the obligations, clause by clause -/

/-- A listening mode-RF state with one stream byte pending. -/
def rfByteState (b : Byte) : State := { rfState with inputs := [.byte b] }

/-- A listening state with one command word pending. -/
def cmdState (w : Byte) : State := { rfState with inputs := [.cmd w] }

theorem rfByteState_listening (b : Byte) : Listening (rfByteState b) := ⟨rfl, rfl, rfl⟩

theorem cmdState_listening (w : Byte) : Listening (cmdState w) := ⟨rfl, rfl, rfl⟩

/-- A mode-RF state that has received a whole frame but its end sentinel. -/
def beforeEnd (f : List Byte) : State := { rfState with inside := true, acc := f.dropLast }

/-- A mode-RS422 state one byte short of a frame. -/
def beforeLast (f : List Byte) : State := { rsState with acc := (rsFrame f).dropLast }

theorem quietFrame_crcOk : crcOk (quietFrame 0x1A) = true := by
  have hs : memRead (quietFrame 0x1A) crcLo crcLen = some ([0x1A] ++ crcBe [0x1A] ++ List.replicate 275 0) := by decide +kernel
  have hc : u16be (quietFrame 0x1A) cksumOff = some 0 := by decide +kernel
  have h0 : crc16 ([0x1A] ++ crcBe [0x1A]) = 0 := by decide +kernel
  rw [crcOk_of hs hc, crc16_append_zeros h0]; rfl

theorem quietBad_crcOk : crcOk (quietBad 0x1A) = false := by
  have hs : memRead (quietBad 0x1A) crcLo crcLen = some ([0x1A] ++ crcBe [0x1A] ++ List.replicate 275 0) := by decide +kernel
  have hc : u16be (quietBad 0x1A) cksumOff = some 1 := by decide +kernel
  have h0 : crc16 ([0x1A] ++ crcBe [0x1A]) = 0 := by decide +kernel
  rw [crcOk_of hs hc, crc16_append_zeros h0]; rfl

theorem test_witness_rfEnd_outside : rfState.inside = false := rfl
theorem test_witness_rfEnd_over : { beforeEnd tel1 with accOver := true }.inside = true ∧
    { beforeEnd tel1 with accOver := true }.accOver = true := ⟨rfl, rfl⟩
theorem test_witness_rfEnd_ambiguous : (beforeEnd [0xCA, 0xBD, 0xEF]).inside = true ∧
    destuffOf ((beforeEnd [0xCA, 0xBD, 0xEF]).acc ++ [0xEF]) = none := by decide
theorem test_witness_rfEnd_length : (beforeEnd [0xCA, 0xEF]).inside = true ∧
    destuffOf ((beforeEnd [0xCA, 0xEF]).acc ++ [0xEF]) = some [0xCA, 0xEF] ∧ [0xCA, 0xEF].length ≠ 284 := by decide
theorem test_witness_rfEnd_crc : (beforeEnd (quietBad 0x1A)).inside = true ∧ (beforeEnd (quietBad 0x1A)).accOver = false ∧
    destuffOf ((beforeEnd (quietBad 0x1A)).acc ++ [0xEF]) = some (quietBad 0x1A) ∧ (quietBad 0x1A).length = 284 ∧
    crcOk (quietBad 0x1A) = false := ⟨rfl, rfl, by decide +kernel, by decide +kernel, quietBad_crcOk⟩
theorem test_witness_rfEnd_ok : (beforeEnd (quietFrame 0x1A)).inside = true ∧ (beforeEnd (quietFrame 0x1A)).accOver = false ∧
    destuffOf ((beforeEnd (quietFrame 0x1A)).acc ++ [0xEF]) = some (quietFrame 0x1A) ∧ (quietFrame 0x1A).length = 284 ∧
    crcOk (quietFrame 0x1A) = true := ⟨rfl, rfl, by decide +kernel, by decide +kernel, quietFrame_crcOk⟩

theorem beforeLast_frame (f : List Byte) (h : [0xCA] ++ ((rsFrame f).dropLast ++ [0]) ++ [0xEF] = f) :
    [0xCA] ++ ((beforeLast f).acc ++ [0]) ++ [0xEF] = f := h
theorem test_witness_rsData_more : ({ rsState with acc := List.replicate 280 0 } : State).acc.length ≠ 281 := by decide +kernel
theorem test_witness_rsData_crc : (beforeLast (quietBad 0x1A)).acc.length = 281 ∧
    crcOk ([0xCA] ++ ((beforeLast (quietBad 0x1A)).acc ++ [0]) ++ [0xEF]) = false :=
  ⟨by decide +kernel, by rw [beforeLast_frame _ (by decide +kernel)]; exact quietBad_crcOk⟩
theorem test_witness_rsData_ok : (beforeLast (quietFrame 0x1A)).acc.length = 281 ∧
    crcOk ([0xCA] ++ ((beforeLast (quietFrame 0x1A)).acc ++ [0]) ++ [0xEF]) = true :=
  ⟨by decide +kernel, by rw [beforeLast_frame _ (by decide +kernel)]; exact quietFrame_crcOk⟩

theorem test_witness_stream_raw : Listening { rfByteState 0xCA with bypass := .raw } ∧
    { rfByteState 0xCA with bypass := .raw }.inputs = [.byte 0xCA] := ⟨⟨rfl, rfl, rfl⟩, rfl⟩
theorem test_witness_stream_rs422 : Listening { rfByteState 0xCA with mode := .rs422 } ∧
    { rfByteState 0xCA with mode := .rs422 }.inputs = [.byte 0xCA] ∧
    { rfByteState 0xCA with mode := .rs422 }.bypass = .framed := ⟨⟨rfl, rfl, rfl⟩, rfl, rfl⟩
theorem test_witness_stream_start : Listening (rfByteState 0xCA) ∧ (rfByteState 0xCA).inputs = [.byte 0xCA] ∧
    (rfByteState 0xCA).bypass = .framed ∧ (rfByteState 0xCA).mode = .rf := ⟨⟨rfl, rfl, rfl⟩, rfl, rfl, rfl⟩
theorem test_witness_stream_end : Listening (rfByteState 0xEF) ∧ (rfByteState 0xEF).inputs = [.byte 0xEF] ∧
    (rfByteState 0xEF).bypass = .framed ∧ (rfByteState 0xEF).mode = .rf := ⟨⟨rfl, rfl, rfl⟩, rfl, rfl, rfl⟩
theorem test_witness_stream_data : Listening (rfByteState 0xCB) ∧ (rfByteState 0xCB).inputs = [.byte 0xCB] ∧
    (rfByteState 0xCB).bypass = .framed ∧ (rfByteState 0xCB).mode = .rf ∧ (0xCB : Byte) ≠ 0xCA ∧ (0xCB : Byte) ≠ 0xEF :=
  ⟨⟨rfl, rfl, rfl⟩, rfl, rfl, rfl, by decide, by decide⟩
theorem test_witness_command (w : Byte) : Listening (cmdState w) ∧ (cmdState w).inputs = [.cmd w] := ⟨⟨rfl, rfl, rfl⟩, rfl⟩
theorem test_witness_command_illegal : (0x31 : Byte) ≠ 0x10 ∧ (0x31 : Byte) ≠ 0x11 ∧ (0x31 : Byte) ≠ 0x20 ∧
    (0x31 : Byte) ≠ 0x21 ∧ (0x31 : Byte) ≠ 0x30 ∧ (0x31 : Byte) ≠ 0x40 := by decide
theorem test_witness_command_signal : Listening { rfState with inputs := [.terr] } ∧
    { rfState with inputs := [.terr] }.inputs = [.terr] := ⟨⟨rfl, rfl, rfl⟩, rfl⟩
theorem test_witness_decodedInput : Listening (rfByteState 0xCA) ∧ (rfByteState 0xCA).inputs = .byte 0xCA :: [] ∧
    decode (inputContext (rfByteState 0xCA) (.byte 0xCA)) (inputBytes (.byte 0xCA)) = .ok (.rfStart, []) :=
  ⟨⟨rfl, rfl, rfl⟩, rfl, rfl⟩
theorem test_witness_halted_stopped : { rfByteState 1 with run := .stopped }.unitToken = none ∧
    { rfByteState 1 with run := .stopped }.inputs = .byte 1 :: [] ∧
    { rfByteState 1 with run := .stopped }.run = .stopped := ⟨rfl, rfl, rfl⟩
theorem test_witness_halted_faulted : { rfState with run := .faulted }.unitToken = none ∧
    { rfState with run := .faulted }.run = .faulted ∧ { rfState with run := .faulted }.inputs = [] := ⟨rfl, rfl, rfl⟩
theorem test_witness_halted_refused : { rfByteState 1 with refused := true }.unitToken = none ∧
    { rfByteState 1 with refused := true }.inputs = .byte 1 :: [] ∧
    { rfByteState 1 with refused := true }.refused = true := ⟨rfl, rfl, rfl⟩
theorem test_witness_halted_idle : rfState.unitToken = none ∧ rfState.inputs = [] := ⟨rfl, rfl⟩
theorem test_witness_everyStep : (rfByteState 0xCA).unitToken = none := rfl
theorem test_witness_placedWord : decodeTableWord 8 0x40 = some .cmdStop := by decide

theorem test_witness_scan_ok : destuffOf [0xCA, 0xBD, 0xDC, 0xEF] = some [0xCA, 0xCA, 0xEF] := by decide
theorem test_witness_scan_ambiguous : destuffOf [0xCA, 0xBD, 0xBD, 0xDB, 0xEF] = none := by decide
theorem test_witness_scanTokens : decode .destuff [0xBD, 0xDC, 0xEF] = .ok (.dsEscCA, [0xEF]) ∧ rfState.dsAmbiguous = false :=
  ⟨rfl, rfl⟩
theorem test_witness_stuffing_plain : (0xBD : Byte) ∉ [(0xCA : Byte), 0xDC, 0xEF] := by decide
theorem test_witness_stuffing_unique : (0xCA : Byte) ∉ [(0xBD : Byte), 0xDC, 1] ∧ (0xEF : Byte) ∉ [(0xBD : Byte), 0xDC, 1] ∧
    (destuffFrame [0xBD, 0xDC, 1] rfState).dsAmbiguous = false := by decide
theorem test_witness_lengthLaw : (destuffFrame [0xBD, 0xDC] rfState).dsAmbiguous = false ∧
    (destuffFrame ([0xCA] ++ [] ++ [0xEF]) rfState).dsAmbiguous = false := by decide
theorem test_witness_residue : (quietFrame 0x1A).length = 284 := by decide +kernel
theorem test_witness_singleBit : (quietFrame 0x1A).length = 284 ∧ crcOk (quietFrame 0x1A) = true ∧ (2 ≤ 2 ∧ 2 ≤ 281 ∧ 0 < 8) ∧
    (2 ≤ 281 ∧ 281 ≤ 281 ∧ 7 < 8) := ⟨by decide +kernel, quietFrame_crcOk, by decide, by decide⟩

theorem quietFrame_length : (quietFrame 0x1A).length = 284 := by decide +kernel

theorem quietFrame_destuff : destuffOf (rfFrame (quietFrame 0x1A)) = some (quietFrame 0x1A) := by decide +kernel

theorem quietFrame_outcome : rfOutcomeOf (rfFrame (quietFrame 0x1A)) = .ok := by
  unfold rfOutcomeOf
  rw [quietFrame_destuff]
  simp only [quietFrame_length, quietFrame_crcOk, if_true]

/-- A mode-RF state with the bytes of a frame on the wire pending, and nothing after them. -/
def rfWire (bs : List Byte) : State := { rfState with inputs := bs.map Input.byte }

theorem rfFrame_eq (f : List Byte) : [0xCA] ++ stuff (frameBody f) ++ [0xEF] = rfFrame f := rfl

theorem rfWire_listening (bs : List Byte) : Listening (rfWire bs) ∧ (rfWire bs).mode = .rf ∧ (rfWire bs).bypass = .framed ∧
    (rfWire bs).inputs = bs.map Input.byte := ⟨⟨rfl, rfl, rfl⟩, rfl, rfl, rfl⟩

theorem test_witness_bodyCap_ok :
    let r := [0xCA] ++ stuff (frameBody (quietFrame 0x1A)) ++ [0xEF]
    (Listening (rfWire r) ∧ (rfWire r).mode = .rf ∧ (rfWire r).bypass = .framed ∧ (rfWire r).inputs = r.map Input.byte) ∧
    (∀ b ∈ stuff (frameBody (quietFrame 0x1A)), b ≠ 0xCA ∧ b ≠ 0xEF) ∧ rfOutcomeOf r = .ok ∧
    destuffOf r = some (quietFrame 0x1A) := by
  rw [rfFrame_eq]
  exact ⟨rfWire_listening _, stuff_no_sentinel _, quietFrame_outcome, quietFrame_destuff⟩
theorem test_witness_bodyCap_failed :
    let r : List Byte := [0xCA] ++ [1, 0xBD] ++ [0xEF]
    (Listening (rfWire r) ∧ (rfWire r).mode = .rf ∧ (rfWire r).bypass = .framed ∧ (rfWire r).inputs = r.map Input.byte) ∧
    (∀ b ∈ [(1 : Byte), 0xBD], b ≠ 0xCA ∧ b ≠ 0xEF) ∧ rfOutcomeOf r ≠ .ok :=
  ⟨rfWire_listening _, by decide, by decide⟩

theorem quietFrame_valid : ValidFrame (quietFrame 0x1A) :=
  ⟨quietFrame_length, by decide, by decide, quietFrame_crcOk⟩

/-- A state of a mode with a frame's wire bytes pending and the transport error after them. -/
def wireThenError (m : Mode) (bs : List Byte) : State :=
  { State.reset with mode := m, inputs := bs.map Input.byte ++ [Input.terr] }

theorem test_witness_validFrame_rf :
    let bs := rfFrame (quietFrame 0x1A)
    ValidFrame (quietFrame 0x1A) ∧
    Listening (wireThenError .rf bs) ∧ (wireThenError .rf bs).bypass = .framed ∧ (wireThenError .rf bs).mode = .rf ∧
    (wireThenError .rf bs).inputs = (rfFrame (quietFrame 0x1A)).map Input.byte ++ [Input.terr] :=
  ⟨quietFrame_valid, ⟨rfl, rfl, rfl⟩, rfl, rfl, rfl⟩
theorem test_witness_validFrame_rs :
    let bs := rsFrame (quietFrame 0x1A)
    ValidFrame (quietFrame 0x1A) ∧
    Listening (wireThenError .rs422 bs) ∧ (wireThenError .rs422 bs).bypass = .framed ∧
    (wireThenError .rs422 bs).mode = .rs422 ∧ (wireThenError .rs422 bs).acc = [] ∧
    (wireThenError .rs422 bs).inputs = (rsFrame (quietFrame 0x1A)).map Input.byte ++ [Input.terr] :=
  ⟨quietFrame_valid, ⟨rfl, rfl, rfl⟩, rfl, rfl, rfl, rfl⟩
theorem test_witness_made : (List.replicate 277 (0xCA : Byte)).length = 277 := by decide +kernel
theorem test_witness_resync : Listening (rfByteState 0xEF) ∧ (rfByteState 0xEF).mode = .rf ∧
    (rfByteState 0xEF).bypass = .framed ∧ (rfByteState 0xEF).inputs = .byte 0xEF :: [] ∧ (0xEF : Byte) ≠ 0xCA ∧
    (rfByteState 0xEF).inside = false := ⟨⟨rfl, rfl, rfl⟩, rfl, rfl, rfl, by decide, rfl⟩

theorem test_witness_hemisphere_finite : { rfState with latitude := .finite 1 }.latitude = .finite 1 ∧
    { rfState with longitude := .finite 1 }.longitude = .finite 1 := ⟨rfl, rfl⟩
theorem test_witness_hemisphere_nonfinite : { rfState with latitude := .nonfinite }.latitude = .nonfinite ∧
    { rfState with longitude := .nonfinite }.longitude = .nonfinite := ⟨rfl, rfl⟩
theorem test_witness_telemetry : 160 ≤ ({ rfState with fb := List.replicate 160 0 } : State).fb.length ∧
    160 ≤ ({ rfState with fb := tel1 } : State).fb.length := by decide +kernel
theorem test_witness_shortFrames : 136 ≤ (List.replicate 136 (0 : Byte)).length ∧ (List.replicate 159 (0 : Byte)).length < 160 ∧
    (List.replicate 135 (0 : Byte)).length < 136 ∧ (List.replicate 280 (0 : Byte)).length < 281 := by decide +kernel
theorem test_witness_unassigned : (List.replicate 284 (0 : Byte)).length = 284 ∧
    ((List.replicate 284 (0 : Byte)).set 8 0xFF).length = 284 ∧
    ∀ o, 3 ≤ o → o ≤ 158 → o ≠ 8 → o ≠ 136 →
      (List.replicate 284 (0 : Byte))[o]? = ((List.replicate 284 (0 : Byte)).set 8 0xFF)[o]? :=
  ⟨List.length_replicate, by rw [List.length_set, List.length_replicate],
    fun _ _ _ h _ => (List.getElem?_set_ne h.symm).symm⟩
theorem test_witness_fail : readingOf .one true 32766 ≠ .fail := by decide
/-- Both magnitudes at which RoundsTo changes from a finite number to an infinity. -/
theorem test_witness_rounding : 0 < 2 ∧ ((f64Overflow * 2 - 1 : Nat) : Int).natAbs < f64Overflow * 2 ∧
    f64Overflow * 2 ≤ ((f64Overflow * 2 : Nat) : Int).natAbs := by decide +kernel
theorem test_round_largest : f64Round true (f64Overflow * 2 - 1) 2 = 0xFFEFFFFFFFFFFFFF := by decide +kernel
theorem test_round_infinite : f64Round true (f64Overflow * 2) 2 = 0xFFF0000000000000 := by decide +kernel
theorem test_round_tie : f64Round true 3 2 = 0x8000000000000002 := by decide
theorem test_floor_negative : f64Floor 0xBFE0000000000000 = 0xBFF0000000000000 := by decide +kernel
theorem test_witness_arithmetic : f64IsFinite 0xC090047E6B3FE9FB = true ∧ f64IsFinite 0x8000000000000001 = true ∧ 0 < 60 := by
  decide
theorem test_witness_arithmetic_zero : f64IsFinite 0x8000000000000000 = true ∧
    f64Units 0x8000000000000000 + f64Units 0x8000000000000000 = 0 := by decide
theorem test_witness_table : 160 ≤ (List.replicate 160 (0 : Byte)).length := by decide +kernel
theorem test_witness_chunk : 281 ≤ ({ rfState with fb := List.replicate 281 0 } : State).fb.length := by decide +kernel
theorem test_witness_middle_more : (0x01 : Byte) ≠ 0x00 ∧ (0x01 : Byte) ≠ 0x1A ∧ (0x01 : Byte) ≠ 0xFF ∧
    (if rfState.imgOpen = true then rfState.imgCount else 0) + 1 ≠ 27 := by decide
theorem test_witness_middle_closes : (0xFE : Byte) ≠ 0x00 ∧ (0xFE : Byte) ≠ 0x1A ∧ (0xFE : Byte) ≠ 0xFF ∧
    (if { rfState with imgOpen := true, imgCount := 26 }.imgOpen = true
      then { rfState with imgOpen := true, imgCount := 26 }.imgCount else 0) + 1 = 27 := by decide

/-- A mode-RS422 state whose next byte completes an image of one chunk. -/
def beforeImage : State := { beforeLast (quietFrame 0x1A) with inputs := [.byte 0] }

theorem beforeImage_inv : FramerImageInv beforeImage := by
  constructor <;> decide +kernel

theorem beforeImage_step : step beforeImage = .next (ftImgLast (loadFrame (quietFrame 0x1A)
    (reportOutcome .ok (clearFramer { beforeLast (quietFrame 0x1A) with inputs := [] })))) := by
  have hl : ((beforeLast (quietFrame 0x1A)).acc ++ [0]).length = 282 := by decide +kernel
  have hf := beforeLast_frame (quietFrame 0x1A) (by decide +kernel)
  have h : step beforeImage = exec (.rsData 0) { beforeLast (quietFrame 0x1A) with inputs := [] } := rfl
  rw [h, exec_rsData, rsData, if_pos (by exact hl)]
  have hc := completeRs_ok (clearFramer { beforeLast (quietFrame 0x1A) with inputs := [] }) hl (by rw [hf]; exact quietFrame_crcOk)
  have h2 : byteAt (quietFrame 0x1A) 2 = 0x1A := by decide +kernel
  have ht : ∀ s : State, tagByte 0x1A s = ftImgLast s := fun _ => rfl
  rw [hf, h2, ht] at hc
  exact congrArg _ hc

theorem test_witness_sizes : beforeImage.unitToken = none ∧ FramerImageInv beforeImage ∧
    ∃ t, step beforeImage = .next t ∧ imageLengths t.events = [278] :=
  ⟨rfl, beforeImage_inv, _, beforeImage_step, by decide +kernel⟩
theorem test_witness_refusedStays : { rfByteState 1 with refused := true }.refused = true ∧
    step { rfByteState 1 with refused := true } = .next { rfState with refused := true } := ⟨rfl, rfl⟩
theorem test_witness_view : 7 ≤ 7 := by decide
theorem test_witness_counters : (rfByteState 0xCA).unitToken = none ∧ Input.cmd 0x30 ∉ (rfByteState 0xCA).inputs ∧
    run 1 (rfByteState 0xCA) = .next (beginFrame rfState) ∧ (beginFrame rfState).refused = false := ⟨rfl, by decide, rfl, rfl⟩
theorem test_witness_refused_start : { rfState with refused := true }.refused = true := rfl
theorem test_witness_refused_run : run 1 { rfState with refused := true } = .next { rfState with refused := true } := rfl
theorem test_witness_refused_word : run 0 (cmdState 0x31) = .next (cmdState 0x31) ∧ 0 < 1 ∧ Listening (cmdState 0x31) ∧
    (cmdState 0x31).inputs = .cmd 0x31 :: [] ∧ 0x31 ∉ legalCommandWords ∧
    run 1 (cmdState 0x31) = .next { rfState with refused := true } := ⟨rfl, by decide, ⟨rfl, rfl, rfl⟩, rfl, by decide, rfl⟩
theorem test_witness_refused_reset :
    run 0 (present [.cmd 0x31] State.reset) = .next (present [.cmd 0x31] State.reset) ∧
    Listening (present [.cmd 0x31] State.reset) ∧ (present [.cmd 0x31] State.reset).inputs = .cmd 0x31 :: [] :=
  ⟨rfl, ⟨rfl, rfl, rfl⟩, rfl⟩
theorem test_witness_unrefused_reset : runFromReset [.cmd 0x30] = .next State.reset ∧ State.reset.refused = false := ⟨rfl, rfl⟩
theorem test_witness_run : 0 < [Input.cmd 0x30].length := by decide
theorem test_observation_pending : observation (present [.cmd 0x31] State.reset) = none := rfl
theorem test_illegal_unsafe : ¬ runsSafely [.cmd 0x31] := by
  rintro ⟨t, es, v, hr, ho, -⟩
  have h : runFromReset [.cmd 0x31] = .next { State.reset with refused := true } := rfl
  rw [h] at hr
  cases hr
  cases ho
theorem test_legal_safe : runsSafely [.cmd 0x30] := ⟨_, _, _, rfl, rfl, trivial⟩

/-- One step that meets the hypotheses of every statement about a step: it starts a frame. -/
theorem test_witness_step : (rfByteState 0xCA).unitToken = none ∧ (rfByteState 0xCA).inputs = .byte 0xCA :: [] ∧
    FramerImageInv (rfByteState 0xCA) ∧ AccInBounds (rfByteState 0xCA) ∧ UnitsIdle (rfByteState 0xCA) ∧
    step (rfByteState 0xCA) = .next (beginFrame rfState) := by
  refine ⟨rfl, rfl, ?_, ?_, ?_, rfl⟩
  · constructor <;> decide
  · exact Nat.zero_le _
  · constructor <;> rfl
theorem test_witness_framer : (rfByteState 0xCA).unitToken = none ∧ step (rfByteState 0xCA) = .next (beginFrame rfState) ∧
    step { rfByteState 0xCA with imgOpen := true, imgCount := 3, cntFrames := 7, events := [.transportError] } =
      .next { beginFrame rfState with imgOpen := true, imgCount := 3, cntFrames := 7, events := [.transportError] } :=
  ⟨rfl, rfl, rfl⟩
theorem test_witness_chunks : rfState.unitToken = none ∧
    run [Input.byte 0xCA].length { rfState with inputs := [.byte 0xCA] } = .next (beginFrame rfState) := ⟨rfl, rfl⟩
theorem test_witness_decodeOfEncode : (Instr.rfData 0xCB).wellFormed = true ∧ (Instr.rfData 0xCB = .dsEscTrunc → [(7 : Byte)] = []) ∧
    Instr.dsEscTrunc.wellFormed = true := ⟨by decide, fun h => Instr.noConfusion h, by decide⟩
theorem test_witness_encodeOfDecode : decode .status [4, 9] = .ok (.statOn, [9]) := rfl

/-! ### Whole records (TV-S13, TV-S14) -/

theorem test_telemetry_tel1 :
    (records ((eventsAfter (exec .ftTelemetry { rfState with fb := tel1 })).getD [])).map
      (fun p => (p.1.iou[0]?, p.1.pmu[0]?, p.1.pdu.length)) = [(some (.val 250 .ten), some .fail, 18)] := by decide +kernel
theorem test_telemetry_tel2 :
    (records ((eventsAfter (exec .ftTelemetry { rfState with fb := tel2 })).getD [])).map Prod.snd =
      [some ⟨12, 34, 56, 78, .finite 0x4024D66306EEBFF5, .finite 0xC05AA08888888889⟩] := by decide +kernel

end Sys2Proof.Tests
end

section
/-! SUPPORT. Packaging of the proofs about every step: what inputs and tokens keep, a step with an empty sub-unit latch keeps; and
what the completion of a candidate frame leaves alone. -/

namespace Sys2Proof.Machine

/-- What taking an input off the list keeps and what every token keeps, a step with an empty sub-unit latch keeps. -/
theorem step_keeps {P : State → Prop} (hin : ∀ s xs, P s → P (setInputs xs s)) (htok : ∀ s t, TokenEffect s t → P s → P t)
    {s t : State} (hu : s.unitToken = none) (hs : P s) (h : step s = .next t) : P t := by
  rcases step_cases hu h with rfl | ⟨x, rest, _, rfl | ⟨i, _, _, _, he⟩⟩
  · exact hs
  · exact hin s rest hs
  · exact htok _ t he (hin s rest hs)

/-- Completing a frame leaves the framer as it finds it; the tokens that complete one have cleared it before (R144, R147). -/
theorem completed_framer {s t : State} (h : Completed s t) :
    t.mode = s.mode ∧ t.bypass = s.bypass ∧ t.acc = s.acc ∧ t.inside = s.inside ∧ t.accOver = s.accOver := by
  cases h <;> simp [reportOutcome]

end Sys2Proof.Machine
end

section
/-! SUPPORT. R37 in its two halves: clauses (a) to (d) speak of the framer, (e) to (g) of the image assembly. Each is kept by every
token. -/

namespace Sys2Proof.Machine

/-- Clauses (a) to (d) of R37. -/
structure FramerInv (s : State) : Prop where
  outsideEmpty : s.mode = .rf → s.inside = false → s.acc = [] ∧ s.accOver = false
  insideRf : s.inside = true → s.mode = .rf ∧ s.bypass = .framed ∧ s.acc[0]? = some 0xCA
  rs422Short : s.mode = .rs422 → s.bypass = .framed → s.acc.length ≤ 281 ∧ s.inside = false
  rawEmpty : s.bypass = .raw → s.acc = [] ∧ s.inside = false

/-- Clauses (e) to (g) of R37. -/
structure AssemblyInv (s : State) : Prop where
  closedEmpty : s.imgOpen = false → s.imgCount = 0 ∧ s.imgBuf = []
  openCount : s.imgOpen = true → 1 ≤ s.imgCount ∧ s.imgCount ≤ 26
  bufLength : s.imgBuf.length = 278 * s.imgCount

theorem framerImageInv_iff (s : State) : FramerImageInv s ↔ FramerInv s ∧ AssemblyInv s :=
  ⟨fun h => ⟨⟨h.outsideEmpty, h.insideRf, h.rs422Short, h.rawEmpty⟩, ⟨h.closedEmpty, h.openCount, h.bufLength⟩⟩,
    fun ⟨f, a⟩ => ⟨f.outsideEmpty, f.insideRf, f.rs422Short, f.rawEmpty, a.closedEmpty, a.openCount, a.bufLength⟩⟩

/-! ### The framer -/

theorem FramerInv.congr {s t : State} (h : FramerInv s) (hm : t.mode = s.mode) (hb : t.bypass = s.bypass) (ha : t.acc = s.acc)
    (hi : t.inside = s.inside) (ho : t.accOver = s.accOver) : FramerInv t := by
  obtain ⟨outside, inside, rs, raw⟩ := h
  rw [← hm, ← hi, ← ha, ← ho] at outside
  rw [← hm, ← hb, ← hi, ← ha] at inside
  rw [← hm, ← hb, ← ha, ← hi] at rs
  rw [← hb, ← ha, ← hi] at raw
  exact ⟨outside, inside, rs, raw⟩

/-- A cleared framer meets its clauses whatever the mode and the bypass. -/
theorem framerInv_of_cleared {s : State} (ha : s.acc = []) (hi : s.inside = false) (ho : s.accOver = false) : FramerInv s where
  outsideEmpty _ _ := ⟨ha, ho⟩
  insideRf h := nomatch hi.symm.trans h
  rs422Short _ _ := ⟨by rw [ha]; exact Nat.zero_le _, hi⟩
  rawEmpty _ := ⟨ha, hi⟩

/-- Inside a frame the clauses come down to (b): the other three speak of other modes or of no frame. -/
theorem framerInv_of_inside {s : State} (hm : s.mode = .rf) (hb : s.bypass = .framed) (hi : s.inside = true)
    (ha : s.acc[0]? = some 0xCA) : FramerInv s where
  outsideEmpty _ h := nomatch hi.symm.trans h
  insideRf _ := ⟨hm, hb, ha⟩
  rs422Short h := nomatch hm.symm.trans h
  rawEmpty h := nomatch hb.symm.trans h

/-- In mode RS422 the clauses come down to (c). -/
theorem framerInv_of_rs422 {s : State} (hm : s.mode = .rs422) (hb : s.bypass = .framed) (hi : s.inside = false)
    (hl : s.acc.length ≤ 281) : FramerInv s where
  outsideEmpty h := nomatch hm.symm.trans h
  insideRf h := nomatch hi.symm.trans h
  rs422Short _ _ := ⟨hl, hi⟩
  rawEmpty h := nomatch hb.symm.trans h

/-- A frame completed with the framer cleared leaves it cleared. -/
theorem completed_framerInv {s t : State} (h : Completed s t) (ha : s.acc = []) (hi : s.inside = false) (ho : s.accOver = false) :
    FramerInv t := by
  obtain ⟨_, _, ea, ei, eo⟩ := completed_framer h
  exact framerInv_of_cleared (ea.trans ha) (ei.trans hi) (eo.trans ho)

theorem tokenEffect_framerInv {s t : State} (h : TokenEffect s t) (hs : FramerInv s) : FramerInv t := by
  cases h with
  | begin hb hm => exact framerInv_of_inside hm hb rfl rfl
  | append b hb hm hi _ =>
    obtain ⟨_, _, hacc⟩ := hs.insideRf hi
    have hlt : 0 < s.acc.length := (List.getElem?_eq_some_iff.mp hacc).1
    exact framerInv_of_inside hm hb hi ((memByte_memAppend_old hlt).trans hacc)
  | pastCap hb hm hi => exact framerInv_of_inside hm hb hi (hs.insideRf hi).2.2
  | appendRs b hb hm hl =>
    obtain ⟨hle, hi⟩ := hs.rs422Short hm hb
    exact framerInv_of_rs422 hm hb hi (by simp; omega)
  | frameRf _ _ _ _ hc => exact completed_framerInv hc rfl rfl rfl
  | frameRs _ _ _ _ hc => exact completed_framerInv hc rfl rfl rfl
  | setMode m => exact framerInv_of_cleared rfl rfl rfl
  | setBypass p => exact framerInv_of_cleared rfl rfl rfl
  | nothing | raw | zero | stop | illegal | transportError => exact hs.congr rfl rfl rfl rfl rfl

/-! ### The image assembly -/

theorem AssemblyInv.congr {s t : State} (h : AssemblyInv s) (ho : t.imgOpen = s.imgOpen) (hn : t.imgCount = s.imgCount)
    (hb : t.imgBuf = s.imgBuf) : AssemblyInv t := by
  obtain ⟨closed, opened, len⟩ := h
  rw [← ho, ← hn, ← hb] at closed
  rw [← ho, ← hn] at opened
  rw [← hn, ← hb] at len
  exact ⟨closed, opened, len⟩

theorem assemblyInv_of_closed {s : State} (ho : s.imgOpen = false) (hn : s.imgCount = 0) (hb : s.imgBuf = []) :
    AssemblyInv s where
  closedEmpty _ := ⟨hn, hb⟩
  openCount h := nomatch ho.symm.trans h
  bufLength := by rw [hn, hb]; rfl

theorem assemblyInv_of_open {s : State} (ho : s.imgOpen = true) (h1 : 1 ≤ s.imgCount) (h26 : s.imgCount ≤ 26)
    (hl : s.imgBuf.length = 278 * s.imgCount) : AssemblyInv s where
  closedEmpty h := nomatch ho.symm.trans h
  openCount _ := ⟨h1, h26⟩
  bufLength := hl

/-- What a chunk is appended to, the open assembly or a new one, holds at most 26 chunks of 278 bytes. -/
theorem AssemblyInv.appendedTo {s : State} (h : AssemblyInv s) {buf : Memory} {n : Nat}
    (hb : (buf = [] ∧ n = 0) ∨ (buf = s.imgBuf ∧ n = s.imgCount ∧ s.imgOpen = true)) : n ≤ 26 ∧ buf.length = 278 * n := by
  rcases hb with ⟨rfl, rfl⟩ | ⟨rfl, rfl, ho⟩
  · exact ⟨Nat.zero_le _, rfl⟩
  · exact ⟨(h.openCount ho).2, h.bufLength⟩

/-- A frame's completion keeps the clauses of the assembly: the 27th chunk never stays in it, since it is delivered (R236). -/
theorem completed_assemblyInv {s t : State} (h : Completed s t) (hs : AssemblyInv s) : AssemblyInv t := by
  cases h with
  | failed o _ => exact hs.congr rfl rfl rfl
  | telemetry rec gps => exact hs.congr (by simp [reportOutcome]) (by simp [reportOutcome]) (by simp [reportOutcome])
  | chunk seq buf slice n hslice hb _ hn =>
    obtain ⟨hle, hlen⟩ := hs.appendedTo hb
    have not_last : n + 1 ≠ 27 := hn
    exact assemblyInv_of_open (by simp) (by simp) (by simp; omega) (by simp; omega)
  | image buf slice n _ _ => exact assemblyInv_of_closed (by simp) (by simp) (by simp)

theorem tokenEffect_assemblyInv {s t : State} (h : TokenEffect s t) (hs : AssemblyInv s) : AssemblyInv t := by
  cases h with
  | frameRf _ _ _ _ hc => exact completed_assemblyInv hc (hs.congr rfl rfl rfl)
  | frameRs _ _ _ _ hc => exact completed_assemblyInv hc (hs.congr rfl rfl rfl)
  | _ => exact hs.congr rfl rfl rfl

/-! ### Both -/

theorem tokenEffect_framerImageInv {s t : State} (h : TokenEffect s t) (hs : FramerImageInv s) : FramerImageInv t := by
  obtain ⟨hf, ha⟩ := (framerImageInv_iff s).mp hs
  exact (framerImageInv_iff t).mpr ⟨tokenEffect_framerInv h hf, tokenEffect_assemblyInv h ha⟩

theorem setInputs_framerImageInv (s : State) (xs : List Input) (hs : FramerImageInv s) : FramerImageInv (setInputs xs s) := by
  obtain ⟨hf, ha⟩ := (framerImageInv_iff s).mp hs
  exact (framerImageInv_iff _).mpr ⟨hf.congr rfl rfl rfl rfl rfl, ha.congr rfl rfl rfl⟩

/-- Settles O49, half by half along the effects of a token. -/
theorem stepKeepsInvariant : Obligations.StepKeepsInvariant := by
  intro s t hu hs h
  exact step_keeps setInputs_framerImageInv (fun _ _ => tokenEffect_framerImageInv) hu hs h

end Sys2Proof.Machine
end

section
/-! SUPPORT. The events a step appends. -/

namespace Sys2Proof.Machine

/-- A completed frame reports its outcome first, and a record or an image only after OUTCOME(Ok) (R148, R149). -/
theorem completed_events {s t : State} (h : Completed s t) : ∃ es, StepEvents es ∧ t.events = s.events ++ es := by
  cases h with
  | failed o _ => exact ⟨_, .outcome o, rfl⟩
  | telemetry rec gps => exact ⟨_, .telemetry rec gps, by simp [reportOutcome]⟩
  | chunk => exact ⟨_, .outcome .ok, rfl⟩
  | image buf slice n _ _ => exact ⟨_, .image (buf ++ slice), by simp [reportOutcome]⟩

theorem tokenEffect_events {s t : State} (h : TokenEffect s t) : ∃ es, StepEvents es ∧ t.events = s.events ++ es := by
  cases h with
  | frameRf _ _ _ _ hc => simpa using completed_events hc
  | frameRs _ _ _ _ hc => simpa using completed_events hc
  | raw b _ => exact ⟨_, .raw b, rfl⟩
  | transportError => exact ⟨_, .transportError, rfl⟩
  | _ => exact ⟨[], .silent, (List.append_nil _).symm⟩

/-- Settles O47: a step that runs no token is silent, and a token's events are those of its effect. -/
theorem stepEmitsOrderedEvents : Obligations.StepEmitsOrderedEvents := by
  intro s t hu h
  rcases step_cases hu h with rfl | ⟨x, rest, _, rfl | ⟨i, _, _, _, he⟩⟩
  · exact ⟨[], .silent, (List.append_nil _).symm⟩
  · exact ⟨[], .silent, (List.append_nil _).symm⟩
  · simpa using tokenEffect_events he

end Sys2Proof.Machine
end

section
/-! SUPPORT. What lives only inside a step is empty after it. -/

namespace Sys2Proof.Machine

section
variable {s : State}

theorem emit_unitsIdle (e : Event) (hs : UnitsIdle s) : UnitsIdle (emit e s) := { hs with }
theorem reportOutcome_unitsIdle (o : FrameOutcome) (hs : UnitsIdle s) : UnitsIdle (reportOutcome o s) := { hs with }
theorem countImage_unitsIdle (hs : UnitsIdle s) : UnitsIdle (countImage s) := { hs with }
theorem closeAssembly_unitsIdle (hs : UnitsIdle s) : UnitsIdle (closeAssembly s) := { hs with }
theorem consumeFrame_unitsIdle (hs : UnitsIdle s) : UnitsIdle (consumeFrame s) := { hs with noFrame := rfl }
theorem clearExtractor_unitsIdle (hs : UnitsIdle s) : UnitsIdle (clearExtractor s) :=
  { hs with noStatus := rfl, noLatitude := rfl, noLongitude := rfl }
theorem clearFramer_unitsIdle (hs : UnitsIdle s) : UnitsIdle (clearFramer s) := { hs with }
theorem clearDestuffer_unitsIdle (hs : UnitsIdle s) : UnitsIdle (clearDestuffer s) :=
  { hs with noOutput := rfl, atStart := rfl, noVerdict := rfl }

end

/-- A completed frame leaves the units idle: the frame buffer and the record are cleared where they were filled (R35). -/
theorem completed_unitsIdle {s t : State} (h : Completed s t) (hs : UnitsIdle s) : UnitsIdle t := by
  cases h with
  | failed o _ => exact reportOutcome_unitsIdle o hs
  | telemetry rec gps =>
    exact consumeFrame_unitsIdle (clearExtractor_unitsIdle (emit_unitsIdle _ (reportOutcome_unitsIdle _ hs)))
  | chunk => exact consumeFrame_unitsIdle { reportOutcome_unitsIdle .ok hs with }
  | image =>
    exact consumeFrame_unitsIdle (closeAssembly_unitsIdle (countImage_unitsIdle
      (emit_unitsIdle _ (reportOutcome_unitsIdle _ hs))))

theorem tokenEffect_unitsIdle {s t : State} (h : TokenEffect s t) (hs : UnitsIdle s) : UnitsIdle t := by
  cases h with
  | frameRf _ _ _ _ hc => exact completed_unitsIdle hc (clearDestuffer_unitsIdle (clearFramer_unitsIdle hs))
  | frameRs _ _ _ _ hc => exact completed_unitsIdle hc (clearFramer_unitsIdle hs)
  | _ => exact { hs with }

/-- Settles O51: only a completed frame uses the units, and it leaves them empty. -/
theorem stepKeepsUnitsIdle : Obligations.StepKeepsUnitsIdle := by
  intro s t hs h
  exact step_keeps (fun _ _ hi => { hi with }) (fun _ _ => tokenEffect_unitsIdle) hs.noToken hs h

end Sys2Proof.Machine
end

section
/-! SUPPORT. The status view's numbering, and reset. -/

namespace Sys2Proof.Machine

theorem modeCode_eq (m : Mode) : modeCode m = if m = .rf then 0 else 1 := by cases m <;> rfl

theorem bypassCode_eq (p : Bypass) : bypassCode p = if p = .framed then 0 else 1 := by cases p <;> rfl

theorem runCode_eq (r : RunState) : runCode r = if r = .running then 0 else if r = .stopped then 1 else 2 := by
  cases r <;> rfl

theorem statusRegister_of_seven_le (v : StatusView) : ∀ n, 7 ≤ n → statusRegister v n = none
  | _ + 7, _ => rfl

/-- Settles O45, register by register. -/
theorem statusViewRegisters : Obligations.StatusViewRegisters := by
  intro s
  exact ⟨congrArg some (modeCode_eq s.mode), congrArg some (bypassCode_eq s.bypass), congrArg some (runCode_eq s.run),
    rfl, rfl, rfl, rfl, statusRegister_of_seven_le _⟩

/-- Settles O50: reset leaves the framer cleared, no assembly open and every unit empty. -/
theorem resetMeetsInvariants : Obligations.ResetMeetsInvariants := by
  have hinv : FramerImageInv State.reset :=
    (framerImageInv_iff _).mpr ⟨framerInv_of_cleared rfl rfl rfl, assemblyInv_of_closed rfl rfl rfl⟩
  have hacc : AccInBounds State.reset := Nat.zero_le _
  have hidle : UnitsIdle State.reset := ⟨rfl, rfl, rfl, rfl, rfl, rfl, rfl, rfl⟩
  exact ⟨hinv, hacc, hidle⟩

end Sys2Proof.Machine
end

section
/-! SUPPORT. The accumulation's address space (R50, R145). In mode RF the cap bounds it; in mode RS422 clause (c) of R37 does, whose
281 bytes are fewer than the smallest cap. -/

namespace Sys2Proof.Machine

theorem accInBounds_congr {s t : State} (h : AccInBounds s) (ha : t.acc = s.acc) : AccInBounds t := by
  unfold AccInBounds
  rw [ha]
  exact h

theorem accInBounds_of_empty {s : State} (ha : s.acc = []) : AccInBounds s := by
  unfold AccInBounds
  rw [ha]
  exact Nat.zero_le _

/-- A byte appended where the body holds fewer than RF_BODY_CAP bytes stays in bounds. -/
theorem appendAcc_accInBounds (b : Byte) {s : State} (hl : s.acc.length - 1 < rfBodyCap) : AccInBounds (appendAcc b s) := by
  have grown : (appendAcc b s).acc.length = s.acc.length + 1 := by simp
  unfold AccInBounds
  omega

/-- RF_BODY_CAP is more than a mode-RS422 body (R145). -/
theorem rs422Body_lt_rfBodyCap : rs422Body < rfBodyCap := by
  unfold rs422Body rfBodyCap
  omega

/-- A frame completed with the framer cleared leaves the accumulation empty. -/
theorem completed_accInBounds {s t : State} (h : Completed s t) (ha : s.acc = []) : AccInBounds t := by
  obtain ⟨_, _, same, _, _⟩ := completed_framer h
  exact accInBounds_of_empty (same.trans ha)

theorem tokenEffect_accInBounds {s t : State} (h : TokenEffect s t) (hinv : FramerImageInv s) (hs : AccInBounds s) :
    AccInBounds t := by
  cases h with
  | begin _ _ => exact Nat.le_add_left 1 rfBodyCap
  | append b _ _ _ hl => exact appendAcc_accInBounds b hl
  | appendRs b hb hm _ =>
    obtain ⟨short, _⟩ := hinv.rs422Short hm hb
    have cap : 282 < rfBodyCap := rs422Body_lt_rfBodyCap
    exact appendAcc_accInBounds b (by omega)
  | frameRf _ _ _ _ hc => exact completed_accInBounds hc rfl
  | frameRs _ _ _ _ hc => exact completed_accInBounds hc rfl
  | setMode | setBypass => exact accInBounds_of_empty rfl
  | nothing | pastCap | raw | zero | stop | illegal | transportError => exact accInBounds_congr hs rfl

/-- Settles O52: the bound is kept together with R37, which bounds the accumulation of mode RS422. -/
theorem stepKeepsAccInBounds : Obligations.StepKeepsAccInBounds := by
  intro s t hu hinv hacc h
  have both := step_keeps (P := fun u => FramerImageInv u ∧ AccInBounds u)
    (fun u xs ⟨hi, ha⟩ => ⟨setInputs_framerImageInv u xs hi, accInBounds_congr ha rfl⟩)
    (fun _ _ he ⟨hi, ha⟩ => ⟨tokenEffect_framerImageInv he hi, tokenEffect_accInBounds he hi ha⟩) hu ⟨hinv, hacc⟩ h
  exact both.2

end Sys2Proof.Machine
end

section
/-! SUPPORT. No token reads or writes the inputs not taken yet, so what a token does is the same whatever is presented after it. -/

namespace Sys2Proof.Machine

/-- The operation neither reads nor writes the inputs not taken yet. -/
def IgnoresInputs (f : State → State) : Prop := ∀ (xs : List Input) (s : State), f (setInputs xs s) = setInputs xs (f s)

/-! ### The sub-units -/

theorem destuffScan_ignoresInputs (r : List Byte) : IgnoresInputs (destuffScan r) := by
  intro xs
  induction r using destuff_induction with
  | nil => exact fun _ => rfl
  | trunc => exact fun _ => rfl
  | pair c rest ih =>
    intro s
    rw [destuffScan_pair, destuffScan_pair]
    split_ifs
    · exact ih (dsEscCA s)
    · exact ih (dsEscEF s)
    · exact ih (dsEscBD s)
    · rfl
  | lit b rest hb ih =>
    intro s
    rw [destuffScan_lit rest _ hb, destuffScan_lit rest _ hb]
    exact ih (dsLit b s)

theorem destuffFrame_ignoresInputs (r : List Byte) : IgnoresInputs (destuffFrame r) := fun xs s =>
  destuffScan_ignoresInputs r xs (clearDestuffer s)

theorem statusBytes_ignoresInputs (bs : List Byte) : IgnoresInputs (statusBytes bs) := fun xs s => by
  rw [statusBytes_eq, statusBytes_eq]
  rfl

theorem convertCoordinates_ignoresInputs (g : GpsReads) : IgnoresInputs (convertCoordinates g) := fun xs s => by
  rw [convertCoordinates_eq, convertCoordinates_eq]
  rfl

theorem ftTelemetry_ignoresInputs : IgnoresInputs ftTelemetry := by
  intro xs s
  have statuses (f : FieldReads) : statusBytes f.statusBytes (clearExtractor (setInputs xs s)) =
      setInputs xs (statusBytes f.statusBytes (clearExtractor s)) := statusBytes_ignoresInputs _ xs (clearExtractor s)
  unfold ftTelemetry
  rw [setInputs_fb]
  cases readFields s.fb with
  | none => rfl
  | some f =>
    dsimp only
    rw [statuses]
    split_ifs
    · cases readGps s.fb with
      | none => rfl
      | some g =>
        dsimp only
        rw [convertCoordinates_ignoresInputs]
        rfl
    · rfl

theorem openIfNeeded_ignoresInputs (seq : Byte) : IgnoresInputs (openIfNeeded seq) := fun xs s => by
  unfold openIfNeeded
  rw [setInputs_imgOpen]
  split_ifs <;> rfl

theorem deliverIfComplete_ignoresInputs (seq : Byte) : IgnoresInputs (deliverIfComplete seq) := fun xs s => by
  unfold deliverIfComplete
  rw [setInputs_imgCount]
  split_ifs <;> rfl

theorem imageChunk_ignoresInputs (seq : Byte) : IgnoresInputs (imageChunk seq) := by
  intro xs s
  unfold imageChunk
  rw [setInputs_fb]
  cases memRead s.fb imgLo imgLen with
  | none => rfl
  | some slice =>
    dsimp only
    rw [openIfNeeded_ignoresInputs]
    exact congrArg consumeFrame (deliverIfComplete_ignoresInputs seq xs (appendChunk slice (openIfNeeded seq s)))

/-! ### The framer -/

theorem tagByte_ignoresInputs (t : Byte) : IgnoresInputs (tagByte t) := by
  intro xs s
  unfold tagByte
  split_ifs
  · exact ftTelemetry_ignoresInputs xs s
  · exact imageChunk_ignoresInputs _ xs s
  · exact imageChunk_ignoresInputs _ xs s
  · exact imageChunk_ignoresInputs t xs s

theorem classifyFrame_ignoresInputs : IgnoresInputs classifyFrame := by
  intro xs s
  unfold classifyFrame
  rw [setInputs_fb]
  cases memByte s.fb tagOff with
  | none => rfl
  | some t => exact tagByte_ignoresInputs t xs s

theorem finishFrame_ignoresInputs (o : FrameOutcome) (fb : Memory) : IgnoresInputs (finishFrame o fb) := by
  intro xs s
  unfold finishFrame
  split_ifs
  · exact classifyFrame_ignoresInputs xs (loadFrame fb (reportOutcome o s))
  · rfl

theorem completeRf_ignoresInputs (r : List Byte) (overflow : Bool) : IgnoresInputs (completeRf r overflow) := by
  intro xs s
  cases overflow with
  | true => exact finishFrame_ignoresInputs _ _ xs (clearDestuffer s)
  | false =>
    simp only [completeRf, Bool.false_eq_true, if_false, destuffFrame_ignoresInputs r xs s]
    exact finishFrame_ignoresInputs _ _ xs (clearDestuffer (destuffFrame r s))

theorem completeRs_ignoresInputs (raw : List Byte) : IgnoresInputs (completeRs raw) := finishFrame_ignoresInputs _ _

theorem rfEnd_ignoresInputs : IgnoresInputs rfEnd := by
  intro xs s
  unfold rfEnd
  rw [setInputs_inside]
  split
  · exact completeRf_ignoresInputs _ _ xs (clearFramer s)
  · rfl

theorem rfData_ignoresInputs (b : Byte) : IgnoresInputs (rfData b) := fun xs s => by
  unfold rfData
  rw [setInputs_inside, setInputs_acc]
  split_ifs <;> rfl

theorem rsData_ignoresInputs (b : Byte) : IgnoresInputs (rsData b) := by
  intro xs s
  have same : (appendAcc b (setInputs xs s)).acc = (appendAcc b s).acc := rfl
  unfold rsData
  rw [same]
  split_ifs
  · exact completeRs_ignoresInputs _ xs (clearFramer s)
  · rfl

/-! ### Every token, and the step -/

/-- What a token answers is the same whatever inputs follow it. -/
theorem exec_setInputs {i : Instr} {s t : State} (h : exec i s = .next t) (xs : List Input) :
    exec i (setInputs xs s) = .next (setInputs xs t) := by
  cases i with
  | rfEnd => cases h; exact congrArg Host.Outcome.next (rfEnd_ignoresInputs xs s)
  | rfData b => cases h; exact congrArg Host.Outcome.next (rfData_ignoresInputs b xs s)
  | rsData b => cases h; exact congrArg Host.Outcome.next (rsData_ignoresInputs b xs s)
  | ftTelemetry => cases h; exact congrArg Host.Outcome.next (ftTelemetry_ignoresInputs xs s)
  | ftImgFirst => cases h; exact congrArg Host.Outcome.next (imageChunk_ignoresInputs _ xs s)
  | ftImgLast => cases h; exact congrArg Host.Outcome.next (imageChunk_ignoresInputs _ xs s)
  | ftImgMid tag => cases h; exact congrArg Host.Outcome.next (imageChunk_ignoresInputs tag xs s)
  | _ => cases h; rfl

theorem completed_unitToken {s t : State} (h : Completed s t) : t.unitToken = s.unitToken := by
  cases h <;> simp [reportOutcome]

/-- A token that is an input leaves the sub-unit latch as it is. -/
theorem tokenEffect_unitToken {s t : State} (h : TokenEffect s t) : t.unitToken = s.unitToken := by
  cases h with
  | frameRf _ _ _ _ hc => exact (completed_unitToken hc).trans rfl
  | frameRs _ _ _ _ hc => exact (completed_unitToken hc).trans rfl
  | _ => rfl

/-- With the sub-unit latch empty, a step leaves it empty. -/
theorem step_unitToken {s t : State} (hu : s.unitToken = none) (h : step s = .next t) : t.unitToken = none :=
  step_keeps (P := fun u => u.unitToken = none) (fun _ _ hn => hn) (fun _ _ he hn => (tokenEffect_unitToken he).trans hn) hu hu h

/-- An input is dropped or decoded by the state that takes it, whatever inputs follow. -/
theorem step_setInputs_cons {s : State} (hu : s.unitToken = none) (x : Input) :
    (∀ rest, step (setInputs (x :: rest) s) = .next (setInputs rest s)) ∨
    ∃ i, ∀ rest, step (setInputs (x :: rest) s) = exec i (setInputs rest s) := by
  have taken (rest : List Input) : fetch (setInputs (x :: rest) s) = takeInput x (setInputs rest s) := fetch_input hu rfl
  obtain ⟨i, bs, hd, _⟩ := decode_input s x
  by_cases hacc : acceptsInput s = true
  · exact .inr ⟨i, fun rest => by simp [step, taken, takeInput, hacc, hd]⟩
  · exact .inl fun rest => by simp [step, taken, takeInput, hacc]

/-- One input has one effect, whatever inputs follow it. -/
theorem step_setInputs_effect {s : State} (hu : s.unitToken = none) (x : Input) :
    ∃ u, u.unitToken = none ∧ ∀ rest, step (setInputs (x :: rest) s) = .next (setInputs rest u) := by
  rcases step_setInputs_cons hu x with dropped | ⟨i, runs⟩
  · exact ⟨s, hu, dropped⟩
  · obtain ⟨u, hexec⟩ := exec_next i s
    have answer (rest : List Input) : step (setInputs (x :: rest) s) = .next (setInputs rest u) :=
      (runs rest).trans (exec_setInputs hexec rest)
    have latch : (setInputs [] u).unitToken = none := step_unitToken (s := setInputs [x] s) hu (answer [])
    exact ⟨u, latch, answer⟩

/-- A chunk of inputs has one effect, whatever inputs follow it. -/
theorem run_setInputs_effect (xs : List Input) : ∀ {s : State}, s.unitToken = none →
    ∃ u, ∀ ys, run xs.length (setInputs (xs ++ ys) s) = .next (setInputs ys u) := by
  induction xs with
  | nil => exact fun {s} _ => ⟨s, fun _ => rfl⟩
  | cons x xs ih =>
    intro s hu
    obtain ⟨v, hv, first⟩ := step_setInputs_effect hu x
    obtain ⟨u, others⟩ := ih hv
    exact ⟨u, fun ys => (run_succ (first (xs ++ ys))).trans (others ys)⟩

/-- Settles O54: the first chunk leads to the same state whether the second follows it at once or is presented then. -/
theorem chunkBoundariesInvisible : Obligations.ChunkBoundariesInvisible := by
  intro s t xs ys hu h
  obtain ⟨u, effect⟩ := run_setInputs_effect xs hu
  have reached : t = setInputs [] u := by
    have alone := effect []
    rw [List.append_nil] at alone
    exact Host.Outcome.next.inj (h.symm.trans alone)
  subst reached
  exact run_add (effect ys)

end Sys2Proof.Machine
end

section
/-! SUPPORT. The decoder row by row (R87): when a catch-all row is read, and which bytes spell the token that is read. -/

namespace Sys2Proof

open Sys2Proof.Machine

/-! ### The operands of the catch-all rows -/

theorem rfData_wellFormed {b : Byte} : (Instr.rfData b).wellFormed = true ↔ b ≠ sentStart ∧ b ≠ sentEnd := by
  simp [Instr.wellFormed]

theorem dsLit_wellFormed {b : Byte} : (Instr.dsLit b).wellFormed = true ↔ b ≠ escByte := by
  simp [Instr.wellFormed]

theorem dsEscBad_wellFormed {c : Byte} :
    (Instr.dsEscBad c).wellFormed = true ↔ c ≠ escCodeCA ∧ c ≠ escCodeEF ∧ c ≠ escCodeBD := by
  simp [Instr.wellFormed, and_assoc]

theorem ftImgMid_wellFormed {t : Byte} :
    (Instr.ftImgMid t).wellFormed = true ↔ t ≠ tagTelemetry ∧ t ≠ imgFirst ∧ t ≠ imgLast := by
  simp [Instr.wellFormed, and_assoc]

theorem statUnknown_wellFormed {x : Byte} : (Instr.statUnknown x).wellFormed = true ↔ 5 ≤ x.toNat := by
  simp [Instr.wellFormed]

theorem hemiOther_latitude_wellFormed {h : Byte} : (Instr.hemiOther .latitude h).wellFormed = true ↔ h ≠ asciiS := by
  simp [Instr.wellFormed]

theorem hemiOther_longitude_wellFormed {h : Byte} : (Instr.hemiOther .longitude h).wellFormed = true ↔ h ≠ asciiW := by
  simp [Instr.wellFormed]

theorem cmdIllegal_wellFormed {w : Byte} : (Instr.cmdIllegal w).wellFormed = true ↔ w ∉ legalCommandWords := by
  simp [Instr.wellFormed]

/-! ### When a catch-all row is read -/

theorem decodeRf_of_ne {b : Byte} (hs : b ≠ sentStart) (he : b ≠ sentEnd) : decodeRf b = .rfData b := by
  rw [decodeRf, if_neg hs, if_neg he]

theorem decodeEscape_of_ne {c : Byte} (hca : c ≠ escCodeCA) (hef : c ≠ escCodeEF) (hbd : c ≠ escCodeBD) :
    decodeEscape c = .dsEscBad c := by
  rw [decodeEscape, if_neg hca, if_neg hef, if_neg hbd]

theorem decodeTag_of_ne {t : Byte} (ht : t ≠ tagTelemetry) (hf : t ≠ imgFirst) (hl : t ≠ imgLast) :
    decodeTag t = .ftImgMid t := by
  rw [decodeTag, if_neg ht, if_neg hf, if_neg hl]

theorem decodeStatus_of_five_le {x : Byte} (h : 5 ≤ x.toNat) : decodeStatus x = .statUnknown x := by
  have ne (k : Byte) (hk : k.toNat < 5) : x ≠ k := by rintro rfl; omega
  rw [decodeStatus, if_neg (ne 0 (by decide)), if_neg (ne 1 (by decide)), if_neg (ne 2 (by decide)),
    if_neg (ne 3 (by decide)), if_neg (ne 4 (by decide))]

theorem decodeHemisphere_latitude_of_ne {h : Byte} (hs : h ≠ asciiS) :
    decodeHemisphere .latitude h = .hemiOther .latitude h := if_neg hs

theorem decodeHemisphere_longitude_of_ne {h : Byte} (hw : h ≠ asciiW) :
    decodeHemisphere .longitude h = .hemiOther .longitude h := if_neg hw

theorem mem_legalCommandWords {w : Byte} :
    w ∈ legalCommandWords ↔ w = 0x10 ∨ w = 0x11 ∨ w = 0x20 ∨ w = 0x21 ∨ w = 0x30 ∨ w = 0x40 := by
  simp [legalCommandWords]

/-- The bit fields of R82 allow the six words that spell a command and no other (R84). -/
theorem decodeCommand_of_not_legal (w : Byte) : w ∉ legalCommandWords → decodeCommand w = .cmdIllegal w :=
  forall_byte (P := fun w => w ∉ legalCommandWords → decodeCommand w = .cmdIllegal w) (by decide +kernel) w

/-! ### Decoding an encoding -/

/-- Settles O55: a row that fixes its bytes reads back by evaluation, and the operand of a catch-all row, being well-formed, is a
byte that no row before it takes. -/
theorem decodeOfEncode : Obligations.DecodeOfEncode := by
  intro i rest wf trunc
  have read {j k : Instr} (h : j = k) : Except.ok (ε := DecodeError) (j, rest) = .ok (k, rest) := h ▸ rfl
  cases i with
  | rfData b =>
    obtain ⟨hs, he⟩ := rfData_wellFormed.mp wf
    exact read (decodeRf_of_ne hs he)
  | dsLit b => exact decode_destuff_lit b rest (dsLit_wellFormed.mp wf)
  | dsEscBad c =>
    obtain ⟨hca, hef, hbd⟩ := dsEscBad_wellFormed.mp wf
    exact read (decodeEscape_of_ne hca hef hbd)
  | dsEscTrunc => rw [trunc rfl]; exact decode_destuff_trunc
  | ftImgMid t =>
    obtain ⟨ht, hf, hl⟩ := ftImgMid_wellFormed.mp wf
    exact read (decodeTag_of_ne ht hf hl)
  | statUnknown x => exact read (decodeStatus_of_five_le (statUnknown_wellFormed.mp wf))
  | hemiOther c h =>
    cases c with
    | latitude => exact read (decodeHemisphere_latitude_of_ne (hemiOther_latitude_wellFormed.mp wf))
    | longitude => exact read (decodeHemisphere_longitude_of_ne (hemiOther_longitude_wellFormed.mp wf))
  | cmdSetMode m => cases m <;> rfl
  | cmdSetBypass p => cases p <;> rfl
  | cmdIllegal w => exact read (decodeCommand_of_not_legal w (cmdIllegal_wellFormed.mp wf))
  | _ => rfl

/-! ### What the decoder reads -/

/-- The bytes `bs` are the spelling of the token `i` in the table of context `c`. -/
structure Spells (c : TokenContext) (bs : List Byte) (i : Instr) : Prop where
  wellFormed : i.wellFormed = true
  context : contextOf i = c
  bytes : encode i = bs

theorem decodeRf_spells (b : Byte) : Spells .streamRf [b] (decodeRf b) := by
  unfold decodeRf
  split_ifs with hs he
  · exact ⟨rfl, rfl, hs ▸ rfl⟩
  · exact ⟨rfl, rfl, he ▸ rfl⟩
  · exact ⟨rfData_wellFormed.mpr ⟨hs, he⟩, rfl, rfl⟩

theorem decodeEscape_spells (c : Byte) : Spells .destuff [escByte, c] (decodeEscape c) := by
  unfold decodeEscape
  split_ifs with hca hef hbd
  · exact ⟨rfl, rfl, hca ▸ rfl⟩
  · exact ⟨rfl, rfl, hef ▸ rfl⟩
  · exact ⟨rfl, rfl, hbd ▸ rfl⟩
  · exact ⟨dsEscBad_wellFormed.mpr ⟨hca, hef, hbd⟩, rfl, rfl⟩

theorem decodeTag_spells (t : Byte) : Spells .tag [t] (decodeTag t) := by
  unfold decodeTag
  split_ifs with ht hf hl
  · exact ⟨rfl, rfl, ht ▸ rfl⟩
  · exact ⟨rfl, rfl, hf ▸ rfl⟩
  · exact ⟨rfl, rfl, hl ▸ rfl⟩
  · exact ⟨ftImgMid_wellFormed.mpr ⟨ht, hf, hl⟩, rfl, rfl⟩

theorem decodeStatus_spells (x : Byte) : Spells .status [x] (decodeStatus x) := by
  unfold decodeStatus
  split_ifs with h0 h1 h2 h3 h4
  · exact ⟨rfl, rfl, h0 ▸ rfl⟩
  · exact ⟨rfl, rfl, h1 ▸ rfl⟩
  · exact ⟨rfl, rfl, h2 ▸ rfl⟩
  · exact ⟨rfl, rfl, h3 ▸ rfl⟩
  · exact ⟨rfl, rfl, h4 ▸ rfl⟩
  · exact ⟨statUnknown_wellFormed.mpr (by bv_omega), rfl, rfl⟩

theorem decodeHemisphere_latitude_spells (h : Byte) : Spells .latHemisphere [h] (decodeHemisphere .latitude h) := by
  by_cases hs : h = asciiS
  · subst hs; exact ⟨rfl, rfl, rfl⟩
  · rw [decodeHemisphere_latitude_of_ne hs]
    exact ⟨hemiOther_latitude_wellFormed.mpr hs, rfl, rfl⟩

theorem decodeHemisphere_longitude_spells (h : Byte) : Spells .lonHemisphere [h] (decodeHemisphere .longitude h) := by
  by_cases hw : h = asciiW
  · subst hw; exact ⟨rfl, rfl, rfl⟩
  · rw [decodeHemisphere_longitude_of_ne hw]
    exact ⟨hemiOther_longitude_wellFormed.mpr hw, rfl, rfl⟩

theorem decodeCommand_spells (w : Byte) : Spells .command [w] (decodeCommand w) := by
  by_cases hw : w ∈ legalCommandWords
  · rcases mem_legalCommandWords.mp hw with rfl | rfl | rfl | rfl | rfl | rfl <;> exact ⟨rfl, rfl, rfl⟩
  · rw [decodeCommand_of_not_legal w hw]
    exact ⟨cmdIllegal_wellFormed.mpr hw, rfl, rfl⟩

/-- Every context but the signal's and the de-stuffer's reads exactly one byte (R88). -/
theorem decode_takes_byte {c : TokenContext} (hs : c ≠ .signal) (hd : c ≠ .destuff) {bs rest : List Byte} {i : Instr}
    (h : decode c bs = .ok (i, rest)) : ∃ b, bs = b :: rest := by
  cases c with
  | signal => exact absurd rfl hs
  | destuff => exact absurd rfl hd
  | _ =>
    cases bs with
    | nil => cases h
    | cons b bs => cases h; exact ⟨b, rfl⟩

theorem decode_destuff_spells {bs rest : List Byte} {i : Instr} (h : decode .destuff bs = .ok (i, rest)) :
    ∃ taken, Spells .destuff taken i ∧ taken ++ rest = bs := by
  cases bs with
  | nil => cases h
  | cons b bs =>
    by_cases hb : b = escByte
    · subst hb
      cases bs with
      | nil => cases h; exact ⟨[escByte], ⟨rfl, rfl, rfl⟩, rfl⟩
      | cons c bs => cases h; exact ⟨[escByte, c], decodeEscape_spells c, rfl⟩
    · rw [decode_destuff_lit b bs hb] at h
      cases h
      exact ⟨[b], ⟨dsLit_wellFormed.mpr hb, rfl, rfl⟩, rfl⟩

/-- Whatever the context, the decoder takes a token's spelling off the front and leaves the rest. -/
theorem decode_spells {c : TokenContext} {bs rest : List Byte} {i : Instr} (h : decode c bs = .ok (i, rest)) :
    ∃ taken, Spells c taken i ∧ taken ++ rest = bs := by
  by_cases hs : c = .signal
  · subst hs; cases h; exact ⟨[], ⟨rfl, rfl, rfl⟩, rfl⟩
  by_cases hd : c = .destuff
  · subst hd; exact decode_destuff_spells h
  obtain ⟨b, rfl⟩ := decode_takes_byte hs hd h
  cases c with
  | signal => exact absurd rfl hs
  | destuff => exact absurd rfl hd
  | streamRf => cases h; exact ⟨[b], decodeRf_spells b, rfl⟩
  | streamRs422 => cases h; exact ⟨[b], ⟨rfl, rfl, rfl⟩, rfl⟩
  | streamRaw => cases h; exact ⟨[b], ⟨rfl, rfl, rfl⟩, rfl⟩
  | tag => cases h; exact ⟨[b], decodeTag_spells b, rfl⟩
  | status => cases h; exact ⟨[b], decodeStatus_spells b, rfl⟩
  | latHemisphere => cases h; exact ⟨[b], decodeHemisphere_latitude_spells b, rfl⟩
  | lonHemisphere => cases h; exact ⟨[b], decodeHemisphere_longitude_spells b, rfl⟩
  | command => cases h; exact ⟨[b], decodeCommand_spells b, rfl⟩

/-- Settles O56: the token is spelled by the bytes the decoder took. -/
theorem encodeOfDecode : Obligations.EncodeOfDecode := by
  intro c bs rest i h
  obtain ⟨taken, spells, rfl⟩ := decode_spells h
  exact ⟨spells.wellFormed, spells.context, congrArg (· ++ rest) spells.bytes⟩

/-- Settles O57: each word of the tables is read by evaluating the decoder on it. -/
theorem tableWordsDecode : Obligations.TableWordsDecode :=
  ⟨rfl, rfl, rfl, rfl, rfl, rfl, rfl, rfl, rfl, rfl, rfl, rfl, rfl, rfl, rfl⟩

end Sys2Proof
end

section
/-! SUPPORT. What the next step fetches and runs, and what the tokens decoded from a command word, a status byte, a hemisphere byte
and a tag do. -/

namespace Sys2Proof.Machine

/-! ### Fetching -/

theorem step_of_fetch {s t : State} {i : Instr} (h : fetch s = .token i t) : step s = exec i t := by
  rw [step, h]

/-- A listening block fetches the token decoded from its first input, in the state without that input. -/
theorem fetch_decoded_input {s : State} {x : Input} {rest : List Input} {i : Instr} {bs : List Byte} (hl : Listening s)
    (hi : s.inputs = x :: rest) (hd : decode (inputContext s x) (inputBytes x) = .ok (i, bs)) :
    fetch s = .token i (setInputs rest s) := by
  obtain ⟨hr, hf, hu⟩ := hl
  have accepts : acceptsInput s = true := (acceptsInput_iff s).mpr ⟨hr, hf⟩
  rw [fetch_input hu hi, takeInput, acceptsInput_setInputs, inputContext_setInputs, if_pos accepts, hd]

/-- A filled latch that holds one whole token gives it and is empty afterwards. -/
theorem fetch_decoded_latch {s : State} {c : TokenContext} {bs : List Byte} {i : Instr} (hu : s.unitToken = some (c, bs))
    (accepts : acceptsInput s = true) (hd : decode c bs = .ok (i, [])) : fetch s = .token i (setUnitToken none s) := by
  rw [fetch_latch hu, takeUnitToken, if_pos accepts, hd]

/-- Bytes that are one whole token of a context are that token to the next fetch, wherever the context has them placed. -/
theorem fetch_placeToken {c : TokenContext} {bs : List Byte} {i : Instr} (h : decode c bs = .ok (i, [])) (s : State) :
    ∃ t, fetch (placeToken c bs s) = .token i t := by
  cases c with
  | signal => cases h; exact ⟨_, fetch_decoded_input ⟨rfl, rfl, rfl⟩ rfl rfl⟩
  | streamRf | streamRs422 | streamRaw | command =>
    obtain ⟨b, rfl⟩ := decode_takes_byte (by decide) (by decide) h
    exact ⟨_, fetch_decoded_input ⟨rfl, rfl, rfl⟩ rfl h⟩
  | destuff | tag | status | latHemisphere | lonHemisphere => exact ⟨_, fetch_decoded_latch rfl rfl h⟩

/-- A table row's word that is one whole token is the token its context decodes. -/
theorem decodeTableWord_some {nbits w : Nat} {i : Instr} (h : decodeTableWord nbits w = some i) :
    ∃ c bs, tableToken nbits w = some (c, bs) ∧ decode c bs = .ok (i, []) := by
  unfold decodeTableWord at h
  split at h
  · cases h
  · rename_i c bs ht
    split at h
    · rename_i j hd; cases h; exact ⟨c, bs, ht, hd⟩
    · cases h
    · cases h

/-- Settles O12: the word is placed as its context's bytes, which the next fetch decodes. -/
theorem placedWordRunsNext : Obligations.PlacedWordRunsNext := by
  intro s nbits w i h
  obtain ⟨c, bs, ht, hd⟩ := decodeTableWord_some h
  have placed : s.withFetchWord nbits w = placeToken c bs s := by rw [State.withFetchWord, ht]
  obtain ⟨t, hf⟩ := fetch_placeToken hd s
  rw [placed]
  exact ⟨t, hf, step_of_fetch hf⟩

/-! ### Commands and the signal -/

/-- The next step of a listening block runs the token decoded from its first input. -/
theorem step_decoded_input {s : State} {x : Input} {rest : List Input} {i : Instr} {bs : List Byte} (hl : Listening s)
    (hi : s.inputs = x :: rest) (hd : decode (inputContext s x) (inputBytes x) = .ok (i, bs)) :
    step s = exec i (setInputs rest s) := step_of_fetch (fetch_decoded_input hl hi hd)

/-- Settles O7: the six command words decode by evaluation, every other word is illegal, and the signal has one token. -/
theorem commandWordDispatch : Obligations.CommandWordDispatch := by
  intro s w rest hl
  refine ⟨fun hi => ?_, fun hi => step_decoded_input hl hi rfl⟩
  have run {v : Byte} {i : Instr} (hv : decodeCommand v = i) (hw : w = v) : step s = exec i (setInputs rest s) := by
    subst hv hw
    exact step_decoded_input hl hi rfl
  refine ⟨run rfl, run rfl, run rfl, run rfl, run rfl, run rfl, fun h10 h11 h20 h21 h30 h40 => ?_⟩
  have illegal : w ∉ legalCommandWords := by
    simp only [mem_legalCommandWords, not_or]
    exact ⟨h10, h11, h20, h21, h30, h40⟩
  exact run (decodeCommand_of_not_legal w illegal) rfl

/-! ### Status and hemisphere bytes -/

/-- The token of a status byte does what the telemetry decoder does with that byte. -/
theorem exec_decodeStatus (x : Byte) (s : State) : exec (decodeStatus x) s = .next (statusByte x s) := by
  unfold decodeStatus statusByte
  split_ifs <;> rfl

/-- Settles O25: each status token pushes its enumerator, and the token of a byte pushes the enumerator of R187. -/
theorem statusTokenEffects : Obligations.StatusTokenEffects := fun s x =>
  ⟨rfl, rfl, rfl, rfl, rfl, rfl, by rw [exec_decodeStatus, statusByte_eq]; rfl⟩

/-- Settles O26: the token negates the coordinate under conversion, which a number answers with its sign bit flipped and NONFINITE
with itself. -/
theorem hemisphereTokenEffects : Obligations.HemisphereTokenEffects := by
  intro s c h x
  have lat : exec .hemiLatS s = .next { s with latitude := negCoord s.latitude } := rfl
  have lon : exec .hemiLonW s = .next { s with longitude := negCoord s.longitude } := rfl
  refine ⟨fun hf => ?_, fun hn => ?_, fun hf => ?_, fun hn => ?_, rfl⟩
  · rw [lat, hf]; rfl
  · rw [lat, hn, negCoord, ← hn]
  · rw [lon, hf]; rfl
  · rw [lon, hn, negCoord, ← hn]

/-! ### Tags -/

/-- The token of a tag does what the framer does with an Ok frame of that tag. -/
theorem exec_decodeTag (t : Byte) (s : State) : exec (decodeTag t) s = .next (tagByte t s) := by
  unfold decodeTag tagByte
  split_ifs <;> rfl

end Sys2Proof.Machine
end

section
/-! SUPPORT. Which bytes of a frame the telemetry decoder reads (R85, R188). -/

namespace Sys2Proof.Machine

/-- The frames agree on every byte that the field table assigns (R188). -/
def SameFieldBytes (f g : Memory) : Prop := ∀ o, 3 ≤ o → o ≤ 158 → o ≠ 8 → o ≠ 136 → byteAt f o = byteAt g o

/-- Every 16-bit row lies between the unassigned bytes 8 and 136. -/
theorem int16Row_bounds {r : Int16Row} (h : r ∈ iouRows ++ inertRows ++ pduValueRows ++ pmuRows) :
    9 ≤ r.off ∧ r.off ≤ 134 := by
  simp only [iouRows, inertRows, pduValueRows, pmuRows, List.mem_append, List.mem_map, List.mem_range] at h
  rcases h with ((⟨i, hi, rfl⟩ | ⟨j, hj, rfl⟩) | ⟨k, hk, rfl⟩) | ⟨i, hi, rfl⟩
  · simp only [iouRow]; omega
  · simp only [inertRow]; omega
  · simp only [pduValueRow]; omega
  · simp only [pmuRow]; omega

section
variable {f g : Memory} (h : SameFieldBytes f g)
include h

theorem SameFieldBytes.readingAt_eq {o : Nat} (ho : 9 ≤ o ∧ o ≤ 134) (scale : Scale) (fail : Bool) :
    readingAt f o scale fail = readingAt g o scale fail := by
  have high : byteAt f o = byteAt g o := h o (by omega) (by omega) (by omega) (by omega)
  have low : byteAt f (o + 1) = byteAt g (o + 1) := h (o + 1) (by omega) (by omega) (by omega) (by omega)
  unfold readingAt s16At
  rw [high, low]

/-- The rows of a list read the same. -/
theorem SameFieldBytes.readings_eq {rows : List Int16Row} (hr : rows ⊆ iouRows ++ inertRows ++ pduValueRows ++ pmuRows) :
    (rows.map fun r => readingAt f r.off r.scale r.fail) = rows.map fun r => readingAt g r.off r.scale r.fail :=
  List.map_congr_left fun _ hmem => h.readingAt_eq (int16Row_bounds (hr hmem)) _ _

theorem SameFieldBytes.statusBytes_eq : pduStatusOffs.map (byteAt f) = pduStatusOffs.map (byteAt g) :=
  List.map_congr_left fun o ho => by
    simp only [pduStatusOffs, pduStatusOff, List.mem_map, List.mem_range] at ho
    obtain ⟨k, hk, rfl⟩ := ho
    exact h _ (by omega) (by omega) (by omega) (by omega)

theorem SameFieldBytes.readFields_eq (hf : 136 ≤ f.length) (hg : 136 ≤ g.length) : readFields f = readFields g := by
  have iou := h.readings_eq (rows := iouRows) fun _ hr => by simp [hr]
  have inert := h.readings_eq (rows := inertRows) fun _ hr => by simp [hr]
  have values := h.readings_eq (rows := pduValueRows) fun _ hr => by simp [hr]
  have pmu := h.readings_eq (rows := pmuRows) fun _ hr => by simp [hr]
  rw [Machine.readFields_eq hf, Machine.readFields_eq hg, iou, inert, values, pmu, h.statusBytes_eq]
  simp (disch := decide) only [h 3, h 4, h 5, h 6, h 7, h 39, h 40, h 41, h 42, h 43]

theorem SameFieldBytes.f64At_eq {o : Nat} (ho : 137 ≤ o ∧ o ≤ 151) : f64At f o = f64At g o := by
  have same (k : Nat) (hk : k < 8) : byteAt f (o + k) = byteAt g (o + k) :=
    h (o + k) (by omega) (by omega) (by omega) (by omega)
  have first : byteAt f o = byteAt g o := same 0 (by decide)
  simp (disch := decide) only [f64At, first, same]

theorem SameFieldBytes.readGps_eq (hf : 160 ≤ f.length) (hg : 160 ≤ g.length) : readGps f = readGps g := by
  rw [Machine.readGps_eq hf, Machine.readGps_eq hg, h.f64At_eq (o := 141) (by decide), h.f64At_eq (o := 150) (by decide)]
  simp (disch := decide) only [h 137, h 138, h 139, h 140, h 149, h 158]

end

/-- A frame that holds the GPS block is delivered as what its two readers give, and is then gone from FB. -/
theorem ftTelemetry_of_reads {s : State} {f : FieldReads} {g : GpsReads} (hl : 160 ≤ s.fb.length)
    (hf : readFields s.fb = some f) (hg : readGps s.fb = some g) :
    ftTelemetry s = deliverTelemetry f (some g) (convertCoordinates g (statusBytes f.statusBytes (clearExtractor s))) := by
  rw [ftTelemetry, hf]
  dsimp only
  rw [if_pos hl, hg]

/-- Settles O29: the frame acts only through what the two readers give, and those read none of the bytes left out. -/
theorem telemetryIgnoresUnassignedBytes : Obligations.TelemetryIgnoresUnassignedBytes := by
  intro s f g hf hg same
  have bytes : SameFieldBytes f g := fun o h3 h158 h8 h136 => congrArg (·.getD 0) (same o h3 h158 h8 h136)
  have fields := readFields_eq (m := g) (by omega)
  have gps := readGps_eq (m := g) (by omega)
  have atF := ftTelemetry_of_reads (s := { s with fb := f }) (by simp [hf])
    ((bytes.readFields_eq (by omega) (by omega)).trans fields) ((bytes.readGps_eq (by omega) (by omega)).trans gps)
  have atG := ftTelemetry_of_reads (s := { s with fb := g }) (by simp [hg]) fields gps
  rw [exec_ftTelemetry, exec_ftTelemetry, atF, atG, convertCoordinates_eq, convertCoordinates_eq, statusBytes_eq, statusBytes_eq]
  rfl

end Sys2Proof.Machine
end

section
/-! SUPPORT. The frame MKFRAME builds. -/

namespace Sys2Proof.Machine

/-- `CRCBE` writes the word that `u16be` reads. -/
theorem crcBe_append (c : Word16) : c.extractLsb' 8 8 ++ c.extractLsb' 0 8 = c := by
  apply BitVec.eq_of_toNat_eq
  have := c.isLt
  rw [append_toNat, BitVec.extractLsb'_toNat, BitVec.extractLsb'_toNat, Nat.shiftRight_eq_div_pow, Nat.shiftRight_zero]
  omega

section
variable {tag r1 r2 : Byte} {d : List Byte} (h : d.length = 277)
include h

theorem mkFrame_length : (mkFrame tag d r1 r2).length = 284 := by simp [mkFrame, crcBe, h]

theorem mkFrame_covered : memRead (mkFrame tag d r1 r2) crcLo crcLen = some ([tag] ++ d) := by
  have fits : crcLo + crcLen ≤ (mkFrame tag d r1 r2).length := by rw [mkFrame_length h]; decide
  rw [memRead_of_le fits]
  simp [mkFrame, crcLo, crcLen, h]

theorem mkFrame_checksum : u16be (mkFrame tag d r1 r2) cksumOff = some (crc16 ([tag] ++ d)) := by
  have high : memByte (mkFrame tag d r1 r2) cksumOff = some ((crc16 ([tag] ++ d)).extractLsb' 8 8) := by
    simp [memByte, mkFrame, crcBe, cksumOff, h]
  have low : memByte (mkFrame tag d r1 r2) (cksumOff + 1) = some ((crc16 ([tag] ++ d)).extractLsb' 0 8) := by
    simp [memByte, mkFrame, crcBe, cksumOff, h]
  rw [u16be, high, low]
  exact congrArg some (crcBe_append _)

end

/-- Settles O23: the word MKFRAME writes at 280 is the checksum of the tag and the data, which are the bytes 2 to 279. -/
theorem madeFramesAreValid : Obligations.MadeFramesAreValid := by
  intro tag d r1 r2 h
  refine ⟨mkFrame_length h, by simp [mkFrame], by simp [mkFrame, crcBe, h], ?_⟩
  rw [crcOk_of (mkFrame_covered h) (mkFrame_checksum h), beq_self_eq_true]

end Sys2Proof.Machine
end

section
/-! SUPPORT. De-stuffing what STUFF wrote (R111), and how long that is. -/

namespace Sys2Proof.Machine

/-- The de-stuffer's registers after `n` more bytes scanned and the bytes `out` written. -/
def scanned (out : List Byte) (n : Nat) (s : State) : State := { s with dsOut := s.dsOut ++ out, dsPos := s.dsPos + n }

theorem scanned_scanned (out out' : List Byte) (n n' : Nat) (s : State) :
    scanned out' n' (scanned out n s) = scanned (out ++ out') (n + n') s := by
  simp [scanned, Nat.add_assoc]

/-- A scan takes what STUFF makes of one byte as that byte. -/
theorem destuffScan_stuff_byte (b : Byte) (tail : List Byte) (s : State) :
    destuffScan (stuff [b] ++ tail) s = destuffScan tail (scanned [b] (stuff [b]).length s) := by
  by_cases hca : b = 0xCA
  · subst hca; exact destuffScan_pair escCodeCA tail s
  by_cases hef : b = 0xEF
  · subst hef; exact destuffScan_pair escCodeEF tail s
  by_cases hbd : b = 0xBD
  · subst hbd; exact destuffScan_pair escCodeBD tail s
  have literal : stuff [b] = [b] := by
    rw [stuff, if_neg hca, if_neg hef, if_neg hbd]
    rfl
  rw [literal]
  exact destuffScan_lit tail s hbd

theorem stuff_cons (b : Byte) (bs : List Byte) : stuff (b :: bs) = stuff [b] ++ stuff bs := by
  simp [stuff]

/-- A scan takes a stuffed sequence as the sequence, and goes on with what follows it. -/
theorem destuffScan_stuff (bs tail : List Byte) (s : State) :
    destuffScan (stuff bs ++ tail) s = destuffScan tail (scanned bs (stuff bs).length s) := by
  induction bs generalizing s with
  | nil => simp [stuff, scanned]
  | cons b bs ih =>
    rw [stuff_cons, List.append_assoc, destuffScan_stuff_byte, ih, scanned_scanned, List.length_append]
    rfl

/-- De-stuffing the RF wire form of a body gives the body between its sentinels. -/
theorem destuffFrame_wire (body : List Byte) (s : State) :
    destuffFrame ([0xCA] ++ stuff body ++ [0xEF]) s =
      scanned ([0xCA] ++ body ++ [0xEF]) ([0xCA] ++ stuff body ++ [0xEF]).length (clearDestuffer s) := by
  have start : destuffFrame ([0xCA] ++ stuff body ++ [0xEF]) s =
      destuffScan (stuff body ++ [0xEF]) (scanned [0xCA] 1 (clearDestuffer s)) :=
    destuffScan_lit _ _ (by decide)
  have stop (t : State) : destuffScan [0xEF] t = scanned [0xEF] 1 t := destuffScan_lit [] t (by decide)
  rw [start, destuffScan_stuff, stop, scanned_scanned, scanned_scanned]
  simp [Nat.add_comm]

/-- Stuffing at most doubles a sequence (R110). -/
theorem stuff_length_le (bs : List Byte) : (stuff bs).length ≤ 2 * bs.length := by
  have byte (b : Byte) : (stuff [b]).length ≤ 2 := by
    simp only [stuff]
    split_ifs <;> simp
  induction bs with
  | nil => simp [stuff]
  | cons b bs ih =>
    rw [stuff_cons, List.length_append, List.length_cons]
    have := byte b
    omega

end Sys2Proof.Machine
end

section
/-! SUPPORT. A valid frame on the wire: the bytes that accumulate, and the byte that completes it. -/

namespace Sys2Proof.Machine

/-! ### Accumulation -/

/-- The state with these bytes accumulated and these inputs pending. -/
def receiving (acc : Memory) (xs : List Input) (s : State) : State := { s with acc := acc, inputs := xs }

theorem eq_receiving {s : State} {acc : Memory} {xs : List Input} (ha : s.acc = acc) (hi : s.inputs = xs) :
    s = receiving acc xs s := by
  subst ha hi
  rfl

/-- While fewer than `n` bytes are accumulated, the step on the stream byte `b` appends it and does nothing else. -/
def Accumulates (n : Nat) (s : State) (b : Byte) : Prop :=
  ∀ (acc : Memory) (xs : List Input), acc.length < n →
    step (receiving acc (.byte b :: xs) s) = .next (receiving (acc ++ [b]) xs s)

/-- Bytes that accumulate one by one are all accumulated, up to the bound. -/
theorem run_accumulates {n : Nat} {s : State} {bs : List Byte} (xs : List Input) (h : ∀ b ∈ bs, Accumulates n s b) :
    ∀ acc : Memory, acc.length + bs.length ≤ n →
      run bs.length (receiving acc (bs.map .byte ++ xs) s) = .next (receiving (acc ++ bs) xs s) := by
  induction bs with
  | nil => intro acc _; simp
  | cons b bs ih =>
    intro acc hn
    rw [List.length_cons] at hn
    have first := h b List.mem_cons_self acc (bs.map .byte ++ xs) (by omega)
    have others := ih (fun c hc => h c (List.mem_cons_of_mem b hc)) (acc ++ [b]) (by simp; omega)
    rw [List.append_assoc, List.singleton_append] at others
    exact (run_succ first).trans others

theorem le_rfBodyCap : 564 ≤ rfBodyCap := Nat.le_add_left _ _

section
variable {s : State} (hl : Listening s) (hb : s.bypass = .framed)
include hl hb

theorem step_rfByte (hm : s.mode = .rf) (b : Byte) (acc : Memory) (xs : List Input) :
    step (receiving acc (.byte b :: xs) s) = exec (decodeRf b) (receiving acc xs s) :=
  step_decoded_input (s := receiving acc (.byte b :: xs) s) hl rfl (bs := []) (by
    simp [inputContext, receiving, hb, hm, inputBytes])

theorem step_rsByte (hm : s.mode = .rs422) (b : Byte) (acc : Memory) (xs : List Input) :
    step (receiving acc (.byte b :: xs) s) = exec (.rsData b) (receiving acc xs s) :=
  step_decoded_input (s := receiving acc (.byte b :: xs) s) hl rfl (bs := []) (by
    simp [inputContext, receiving, hb, hm, inputBytes])

/-- Inside a mode-RF frame every byte but the sentinels accumulates, up to the cap after the start sentinel (R143). -/
theorem rfByte_accumulates (hm : s.mode = .rf) (hi : s.inside = true) {b : Byte} (hs : b ≠ sentStart) (he : b ≠ sentEnd) :
    Accumulates (rfBodyCap + 1) s b := by
  intro acc xs hn
  have room : acc.length - 1 < rfBodyCap := by have := le_rfBodyCap; omega
  rw [step_rfByte hl hb hm, decodeRf_of_ne hs he, exec_rfData, rfData, if_pos (show (receiving acc xs s).inside = true from hi),
    if_pos (show (receiving acc xs s).acc.length - 1 < rfBodyCap from room)]
  rfl

/-- In mode RS422 every byte before the 282nd accumulates (R146). -/
theorem rsByte_accumulates (hm : s.mode = .rs422) (b : Byte) : Accumulates 281 s b := by
  intro acc xs hn
  have length : (appendAcc b (receiving acc xs s)).acc.length = acc.length + 1 := memAppend_length acc [b]
  have short : (appendAcc b (receiving acc xs s)).acc.length ≠ rs422Body := by rw [length, rs422Body]; omega
  rw [step_rsByte hl hb hm, exec_rsData, rsData, if_neg short]
  rfl

end

/-! ### Completion -/

/-- A valid frame is its 282 inner bytes between the sentinels (R71). -/
theorem ValidFrame.eq_sentinels {f : List Byte} (h : ValidFrame f) : [0xCA] ++ frameBody f ++ [0xEF] = f := by
  obtain ⟨hlen, hstart, hstop, -⟩ := h
  have first : f.take 1 = [0xCA] := by
    cases f with
    | nil => cases hlen
    | cons b f => cases hstart; rfl
  have last : (f.drop 1).drop 282 = [0xEF] := by
    have hlt : 283 < f.length := by omega
    rw [List.drop_drop, List.drop_eq_getElem_cons hlt, List.drop_of_length_le (by omega)]
    rw [List.getElem?_eq_getElem hlt] at hstop
    rw [Option.some.inj hstop]
  calc [0xCA] ++ frameBody f ++ [0xEF] = f.take 1 ++ ((f.drop 1).take 282 ++ (f.drop 1).drop 282) := by
        rw [first, last, frameBody, List.append_assoc]
    _ = f := by rw [List.take_append_drop, List.take_append_drop]

theorem ValidFrame.frameBody_length {f : List Byte} (h : ValidFrame f) : (frameBody f).length = 282 := by
  simp [frameBody, h.length]

/-- What the RF form of a valid frame accumulates completes, at the end sentinel, as that frame. -/
theorem completeRf_valid {f : List Byte} (h : ValidFrame f) (s : State) :
    completeRf ([0xCA] ++ stuff (frameBody f) ++ [0xEF]) false s =
      tagByte (byteAt f 2) (loadFrame f (reportOutcome .ok (clearDestuffer s))) := by
  have noError : reportedOutcome (rfError false false f) = .ok := by
    rw [rfError, if_neg (by decide), if_neg (by decide), if_pos h.length, checksumError, if_pos h.checksum]
    rfl
  rw [← finishFrame_ok _ h.length, completeRf, if_neg (by decide), destuffFrame_wire, h.eq_sentinels, ← noError]
  rfl

/-- The 282 inner bytes of a valid frame complete, in mode RS422, as that frame. -/
theorem completeRs_valid {f : List Byte} (h : ValidFrame f) (s : State) :
    completeRs (frameBody f) s = tagByte (byteAt f 2) (loadFrame f (reportOutcome .ok s)) := by
  have sentinels : [sentStart] ++ frameBody f ++ [sentEnd] = f := h.eq_sentinels
  rw [completeRs_ok s h.frameBody_length (by rw [sentinels]; exact h.checksum), sentinels]

/-! ### Both wire forms -/

/-- The RF form: the start sentinel opens a frame, the stuffed body accumulates, the end sentinel completes it (R72). -/
theorem run_rfFrame {s : State} {f : List Byte} (rest : List Input) (hl : Listening s) (hb : s.bypass = .framed)
    (hm : s.mode = .rf) (hf : ValidFrame f) (hi : s.inputs = (rfFrame f).map .byte ++ rest) :
    run (rfFrame f).length s = .next
      (tagByte (byteAt f 2) (loadFrame f (reportOutcome .ok (clearDestuffer (clearFramer (setInputs rest s)))))) := by
  have startStep : step s = .next (receiving [0xCA] ((stuff (frameBody f)).map .byte ++ (.byte 0xEF :: rest)) (beginFrame s)) := by
    have wire : s = receiving s.acc (.byte 0xCA :: ((stuff (frameBody f)).map .byte ++ (.byte 0xEF :: rest))) s :=
      eq_receiving rfl (by simp [hi, rfFrame])
    rw [congrArg step wire, step_rfByte hl hb hm]
    rfl
  have bodyRun := run_accumulates (n := rfBodyCap + 1) (s := beginFrame s) (bs := stuff (frameBody f)) (.byte 0xEF :: rest)
    (fun b hmem => by
      obtain ⟨hs, he⟩ := stuff_no_sentinel _ b hmem
      exact rfByte_accumulates (s := beginFrame s) hl hb hm rfl hs he) [0xCA] (by
    have := stuff_length_le (frameBody f)
    have := hf.frameBody_length
    have := le_rfBodyCap
    simp only [List.length_singleton]; omega)
  have endStep := step_rfByte (s := beginFrame s) hl hb hm 0xEF ([0xCA] ++ stuff (frameBody f)) rest
  have length : (rfFrame f).length = (stuff (frameBody f)).length + 1 + 1 := by simp [rfFrame]
  rw [length, run_succ startStep, run_add bodyRun, run, endStep]
  exact congrArg Host.Outcome.next (completeRf_valid hf (clearFramer (setInputs rest s)))

/-- The RS422 form: 281 bytes accumulate and the 282nd completes the frame (R75, R147). -/
theorem run_rsFrame {s : State} {f : List Byte} (rest : List Input) (hl : Listening s) (hb : s.bypass = .framed)
    (hm : s.mode = .rs422) (ha : s.acc = []) (hf : ValidFrame f) (hi : s.inputs = (rsFrame f).map .byte ++ rest) :
    run (rsFrame f).length s = .next
      (tagByte (byteAt f 2) (loadFrame f (reportOutcome .ok (clearFramer (setInputs rest s))))) := by
  obtain ⟨bs, b, body⟩ : ∃ bs b, frameBody f = bs ++ [b] := by
    rcases List.eq_nil_or_concat (frameBody f) with empty | ⟨bs, b, body⟩
    · have := hf.frameBody_length; simp [empty] at this
    · exact ⟨bs, b, by simpa using body⟩
  have short : bs.length = 281 := by have := hf.frameBody_length; simpa [body] using this
  have wire : s = receiving [] (bs.map .byte ++ (.byte b :: rest)) s := eq_receiving ha (by simp [hi, rsFrame, body])
  have bodyRun := run_accumulates (n := 281) (s := s) (bs := bs) (.byte b :: rest)
    (fun c _ => rsByte_accumulates hl hb hm c) [] (by simp [short])
  rw [← wire] at bodyRun
  have lastStep := step_rsByte hl hb hm b bs rest
  have full : (appendAcc b (receiving bs rest s)).acc = frameBody f := body.symm
  have length : (rsFrame f).length = bs.length + 1 := by simp [rsFrame, body]
  rw [length, run_add bodyRun, List.nil_append, run, lastStep, exec_rsData, rsData,
    if_pos (by rw [full]; exact hf.frameBody_length), full]
  exact congrArg Host.Outcome.next (completeRs_valid hf (clearFramer (setInputs rest s)))

/-- Settles O22: either wire form leads to the tag's token on the frame in FB, the framer cleared and the outcome reported. -/
theorem validFrameArrivesInBothModes : Obligations.ValidFrameArrivesInBothModes := by
  intro s f rest hl hb hf
  exact ⟨fun hm hi => ⟨_, exec_decodeTag _ _, run_rfFrame rest hl hb hm hf hi⟩,
    fun hm ha hi => ⟨_, exec_decodeTag _ _, run_rsFrame rest hl hb hm ha hf hi⟩⟩

end Sys2Proof.Machine
end

section
/-! SUPPORT. The de-stuffer's input taken apart token by token (R101 to R107): every input is empty, begins with the bytes of one
literal or defined pair, or begins with an escape that has no resolution. -/

namespace Sys2Proof.Machine

/-! ### The head of the input -/

/-- The raw bytes `u` are one token that the de-stuffer resolves to the byte `b` (R101 to R104). -/
inductive Yields : List Byte → Byte → Prop
  | lit {b : Byte} (h : b ≠ escByte) : Yields [b] b
  | escCA : Yields [escByte, escCodeCA] 0xCA
  | escEF : Yields [escByte, escCodeEF] 0xEF
  | escBD : Yields [escByte, escCodeBD] 0xBD

/-- The raw bytes begin with an escape byte that has no resolution (R105, R106). -/
inductive AmbiguousHead : List Byte → Prop
  | trunc : AmbiguousHead [escByte]
  | bad {c : Byte} (rest : List Byte) (hca : c ≠ escCodeCA) (hef : c ≠ escCodeEF) (hbd : c ≠ escCodeBD) :
      AmbiguousHead (escByte :: c :: rest)

/-- The induction along the tokens of an input. -/
theorem token_induction {P : List Byte → Prop} (nil : P []) (stuck : ∀ r, AmbiguousHead r → P r)
    (token : ∀ u b rest, Yields u b → P rest → P (u ++ rest)) (r : List Byte) : P r := by
  induction r using destuff_induction with
  | nil => exact nil
  | trunc => exact stuck _ .trunc
  | lit b rest hb ih => exact token [b] b rest (.lit hb) ih
  | pair c rest ih =>
    by_cases hca : c = escCodeCA
    · subst hca; exact token _ _ rest .escCA ih
    by_cases hef : c = escCodeEF
    · subst hef; exact token _ _ rest .escEF ih
    by_cases hbd : c = escCodeBD
    · subst hbd; exact token _ _ rest .escBD ih
    exact stuck _ (.bad rest hca hef hbd)

/-! ### A token that resolves -/

section
variable {u : List Byte} {b : Byte} (h : Yields u b)
include h

theorem Yields.destuffScan_append (rest : List Byte) (s : State) :
    destuffScan (u ++ rest) s = destuffScan rest (scanned [b] u.length s) := by
  cases h with
  | lit hb => exact destuffScan_lit rest s hb
  | escCA => exact destuffScan_pair escCodeCA rest s
  | escEF => exact destuffScan_pair escCodeEF rest s
  | escBD => exact destuffScan_pair escCodeBD rest s

theorem Yields.destuffOf_append (rest : List Byte) : destuffOf (u ++ rest) = (destuffOf rest).map (b :: ·) := by
  cases h with
  | lit hb => rw [List.singleton_append, destuffOf.eq_def]; exact if_neg hb
  | escCA => rfl
  | escEF => rfl
  | escBD => rfl

/-- The decoder reads the token off the head, and the token's meaning is what the scan does with it. -/
theorem Yields.decode_append (rest : List Byte) (s : State) :
    ∃ i, decode .destuff (u ++ rest) = .ok (i, rest) ∧ exec i s = .next (scanned [b] u.length s) := by
  cases h with
  | lit hb => exact ⟨_, decode_destuff_lit b rest hb, exec_dsLit s b⟩
  | escCA => exact ⟨_, decode_destuff_pair escCodeCA rest, exec_dsEscCA s⟩
  | escEF => exact ⟨_, decode_destuff_pair escCodeEF rest, exec_dsEscEF s⟩
  | escBD => exact ⟨_, decode_destuff_pair escCodeBD rest, exec_dsEscBD s⟩

theorem Yields.length_bounds : 1 ≤ u.length ∧ u.length ≤ 2 := by
  cases h with
  | lit _ => exact ⟨Nat.le_refl 1, Nat.le_succ 1⟩
  | escCA | escEF | escBD => decide

/-- Without raw sentinels, the token is what STUFF writes for its byte. -/
theorem Yields.stuff_eq (hs : sentStart ∉ u) (he : sentEnd ∉ u) : stuff [b] = u := by
  cases h with
  | lit hb =>
    have hs' : b ≠ sentStart := fun e => hs (by simp [e])
    have he' : b ≠ sentEnd := fun e => he (by simp [e])
    rw [stuff, if_neg hs', if_neg he', if_neg hb]
    rfl
  | escCA => rfl
  | escEF => rfl
  | escBD => rfl

end

/-! ### An escape with no resolution -/

section
variable {r : List Byte} (h : AmbiguousHead r)
include h

theorem AmbiguousHead.destuffScan_eq (s : State) : destuffScan r s = ambiguous s := by
  cases h with
  | trunc => exact destuffScan_trunc s
  | bad rest hca hef hbd => rw [destuffScan_pair, if_neg hca, if_neg hef, if_neg hbd]; rfl

theorem AmbiguousHead.destuffOf_eq : destuffOf r = none := by
  cases h with
  | trunc => rfl
  | bad rest hca hef hbd =>
    rw [destuffOf.eq_def]
    exact (if_pos rfl).trans ((if_neg hca).trans ((if_neg hef).trans (if_neg hbd)))

/-- Whatever token the decoder reads there, it sets the verdict. -/
theorem AmbiguousHead.exec_decoded {rest : List Byte} {i : Instr} (hd : decode .destuff r = .ok (i, rest)) (s : State) :
    exec i s = .next (ambiguous s) := by
  cases h with
  | trunc =>
    obtain ⟨rfl, -⟩ := Prod.mk.inj (Except.ok.inj (decode_destuff_trunc.symm.trans hd))
    exact exec_dsEscTrunc s
  | @bad c tail hca hef hbd =>
    obtain ⟨rfl, -⟩ := Prod.mk.inj (Except.ok.inj ((decode_destuff_pair c tail).symm.trans hd))
    rw [decodeEscape_of_ne hca hef hbd]
    exact exec_dsEscBad s c

/-- The end sentinel does not complete an escape (R105). -/
theorem AmbiguousHead.append_sentEnd : AmbiguousHead (r ++ [sentEnd]) := by
  cases h with
  | trunc => exact .bad [] (by decide) (by decide) (by decide)
  | bad rest hca hef hbd => exact .bad (rest ++ [sentEnd]) hca hef hbd

end

end Sys2Proof.Machine
end

section
/-! SUPPORT. `destuff(r)` as a function: what the machine's scan makes of it, its lengths, its sentinels and its inverse. -/

namespace Sys2Proof.Machine

/-- The raw bytes split into tokens that resolve to these bytes in order. -/
inductive Resolves : List Byte → List Byte → Prop
  | nil : Resolves [] []
  | token {u : List Byte} {b : Byte} {rest d : List Byte} (head : Yields u b) (tail : Resolves rest d) :
      Resolves (u ++ rest) (b :: d)

theorem resolves_of_destuffOf {r d : List Byte} (h : destuffOf r = some d) : Resolves r d := by
  induction r using token_induction generalizing d with
  | nil =>
    obtain rfl : [] = d := Option.some.inj h
    exact .nil
  | stuck r hr => exact absurd (hr.destuffOf_eq.symm.trans h) nofun
  | token u b rest hu ih =>
    rw [hu.destuffOf_append] at h
    obtain ⟨d', hd', rfl⟩ := Option.map_eq_some_iff.mp h
    exact .token hu (ih hd')

/-! ### The scan computes the function -/

theorem destuffScan_of_some {r d : List Byte} (h : destuffOf r = some d) (s : State) :
    destuffScan r s = scanned d r.length s := by
  replace h := resolves_of_destuffOf h
  induction h generalizing s with
  | nil => simp [scanned]
  | token hu _ ih =>
    rw [hu.destuffScan_append, ih, scanned_scanned, List.length_append]
    rfl

theorem destuffScan_of_none {r : List Byte} (h : destuffOf r = none) (s : State) :
    ∃ out n, destuffScan r s = ambiguous (scanned out n s) := by
  induction r using token_induction generalizing s with
  | nil => exact absurd h nofun
  | stuck r hr => exact ⟨[], 0, by simp [hr.destuffScan_eq, scanned]⟩
  | token u b rest hu ih =>
    rw [hu.destuffOf_append, Option.map_eq_none_iff] at h
    obtain ⟨out, n, e⟩ := ih h (scanned [b] u.length s)
    exact ⟨[b] ++ out, u.length + n, by rw [hu.destuffScan_append, e, scanned_scanned]⟩

theorem scanned_clearDestuffer (d : List Byte) (n : Nat) (s : State) :
    scanned d n (clearDestuffer s) = { s with dsOut := d, dsPos := n, dsAmbiguous := false } := by
  simp [scanned, clearDestuffer]

theorem destuffFrame_of_some {r d : List Byte} (h : destuffOf r = some d) (s : State) :
    destuffFrame r s = { s with dsOut := d, dsPos := r.length, dsAmbiguous := false } :=
  (destuffScan_of_some h _).trans (scanned_clearDestuffer d r.length s)

theorem destuffFrame_of_none {r : List Byte} (h : destuffOf r = none) (s : State) :
    ∃ out pos, destuffFrame r s = { s with dsOut := out, dsPos := pos, dsAmbiguous := true } := by
  obtain ⟨out, n, e⟩ := destuffScan_of_none h (clearDestuffer s)
  exact ⟨out, n, by rw [destuffFrame, e, scanned_clearDestuffer]; rfl⟩

/-- A call without the verdict `Ambiguous` leaves `destuff(r)` as the output. -/
theorem destuffOf_of_not_ambiguous {r : List Byte} {s : State} (h : (destuffFrame r s).dsAmbiguous = false) :
    destuffOf r = some (destuffFrame r s).dsOut := by
  cases hr : destuffOf r with
  | none =>
    obtain ⟨out, pos, e⟩ := destuffFrame_of_none hr s
    rw [e] at h
    exact absurd h nofun
  | some d => rw [destuffFrame_of_some hr]

/-! ### Stuffing and lengths -/

theorem destuffOf_of_no_escape {bs : List Byte} (h : escByte ∉ bs) : destuffOf bs = some bs := by
  induction bs with
  | nil => rfl
  | cons b bs ih =>
    obtain ⟨hb, hbs⟩ := List.ne_and_not_mem_of_not_mem_cons h
    exact ((Yields.lit hb.symm).destuffOf_append bs).trans (by rw [ih hbs]; rfl)

theorem stuff_of_destuffOf {r d : List Byte} (h : destuffOf r = some d) (hs : sentStart ∉ r) (he : sentEnd ∉ r) :
    stuff d = r := by
  replace h := resolves_of_destuffOf h
  induction h with
  | nil => rfl
  | token hu _ ih =>
    rw [List.mem_append, not_or] at hs he
    obtain ⟨hsu, hsr⟩ := hs
    obtain ⟨heu, her⟩ := he
    rw [stuff_cons, hu.stuff_eq hsu heu, ih hsr her]

theorem destuffOf_length_bounds {r d : List Byte} (h : destuffOf r = some d) :
    d.length ≤ r.length ∧ r.length ≤ 2 * d.length := by
  replace h := resolves_of_destuffOf h
  induction h with
  | nil => decide
  | token hu _ ih =>
    have := hu.length_bounds
    rw [List.length_append, List.length_cons]
    omega

/-! ### Sentinels -/

theorem destuffOf_append_sentEnd (r : List Byte) :
    destuffOf (r ++ [sentEnd]) = (destuffOf r).map (· ++ [sentEnd]) := by
  induction r using token_induction with
  | nil => rfl
  | stuck r hr => rw [hr.append_sentEnd.destuffOf_eq, hr.destuffOf_eq]; rfl
  | token u b rest hu ih =>
    rw [List.append_assoc, hu.destuffOf_append, hu.destuffOf_append, ih, Option.map_map, Option.map_map]
    rfl

/-- The sentinels of a raw frame are kept around the de-stuffed body (R101). -/
theorem destuffOf_sentinels (body : List Byte) :
    destuffOf ([sentStart] ++ body ++ [sentEnd]) = (destuffOf body).map ([sentStart] ++ · ++ [sentEnd]) := by
  have start : Yields [sentStart] sentStart := .lit (by decide)
  rw [destuffOf_append_sentEnd, start.destuffOf_append, Option.map_map]
  rfl

end Sys2Proof.Machine
end

section
/-! The obligations about the de-stuffer (40_destuffer.md). -/

namespace Sys2Proof.Machine

/-- Settles O13: each token's meaning is its update of the de-stuffer's registers. -/
theorem destufferTokenEffects : Obligations.DestufferTokenEffects := fun s b c =>
  ⟨exec_dsLit s b, exec_dsEscCA s, exec_dsEscEF s, exec_dsEscBD s, exec_dsEscBad s c, exec_dsEscTrunc s⟩

/-- Settles O14, by induction along the tokens of the input. -/
theorem destufferScanComputesDestuff : Obligations.DestufferScanComputesDestuff := fun _ s =>
  ⟨fun _ h => destuffFrame_of_some h s, fun h => destuffFrame_of_none h s⟩

/-- Settles O15: a token that resolves leaves the verdict clear and the scan goes on, any other sets it and ends the scan. -/
theorem destufferScanRunsDecodedTokens : Obligations.DestufferScanRunsDecodedTokens := by
  intro r rest i s hd hs
  induction r using token_induction with
  | nil => exact absurd hd nofun
  | stuck r hr => exact ⟨_, hr.exec_decoded hd s, (hr.destuffScan_eq s).trans (if_pos rfl).symm⟩
  | token u b tail hu _ =>
    obtain ⟨j, hj, hexec⟩ := hu.decode_append tail s
    obtain ⟨rfl, rfl⟩ := Prod.mk.inj (Except.ok.inj (hj.symm.trans hd))
    have clear : (scanned [b] u.length s).dsAmbiguous ≠ true := ne_true_of_eq_false hs
    exact ⟨_, hexec, (hu.destuffScan_append tail s).trans (if_neg clear).symm⟩

/-- Settles O16: a scan takes what STUFF wrote byte by byte, and without raw sentinels each token is what STUFF writes. -/
theorem stuffingRoundTrips : Obligations.StuffingRoundTrips := by
  refine ⟨fun bs s => ?_, fun bs s h => ?_, fun body s hs he h => ?_⟩
  · have scan := destuffScan_stuff bs [] (clearDestuffer s)
    rw [List.append_nil, destuffScan_nil, scanned_clearDestuffer] at scan
    exact scan
  · exact destuffFrame_of_some (destuffOf_of_no_escape h) s
  · exact stuff_of_destuffOf (destuffOf_of_not_ambiguous h) hs he

/-- Settles O17: a token of one or two bytes gives one byte, and the sentinels are literals. -/
theorem destuffedLengthLaw : Obligations.DestuffedLengthLaw := by
  refine ⟨fun r s h => destuffOf_length_bounds (destuffOf_of_not_ambiguous h), fun body s h => ?_⟩
  have frame := destuffOf_of_not_ambiguous h
  obtain ⟨d, -, hd⟩ := Option.map_eq_some_iff.mp ((destuffOf_sentinels body).symm.trans frame)
  rw [← hd]
  exact ⟨rfl, List.getLast?_concat⟩

end Sys2Proof.Machine
end

section
/-! SUPPORT. What CRC-16 keeps apart (41_crc.md): a round loses nothing, since the polynomial's constant term puts the bit that
was shifted out into bit 0. So the register before a byte, and the byte, can be told from the register after it. -/

namespace Sys2Proof.Machine

/-! ### One round and one byte -/

/-- A round keeps the top bit, as bit 0. -/
theorem crcRound_bit_zero (r : Word16) : (crcRound r).getLsbD 0 = r.msb := by
  unfold crcRound
  split <;> simp_all [crcPoly]

theorem crcRound_injective : Function.Injective crcRound := by
  intro a b h
  have top : a.msb = b.msb := by rw [← crcRound_bit_zero, ← crcRound_bit_zero, h]
  have shifted : a <<< 1 = b <<< 1 := by
    unfold crcRound at h
    rw [top] at h
    split at h
    · exact (BitVec.xor_left_inj _).mp h
    · exact h
  have low : ∀ i < 15, a.getLsbD i = b.getLsbD i := by
    intro i hi
    have bit := congrArg (·.getLsbD (i + 1)) shifted
    simpa [show i + 1 < 16 by omega, show i < 16 by omega] using bit
  apply BitVec.eq_of_getLsbD_eq
  intro i hi
  obtain hlt | rfl : i < 15 ∨ i = 15 := by omega
  · exact low i hlt
  · exact top

theorem repeat_crcRound_injective : ∀ n, Function.Injective (Nat.repeat crcRound n)
  | 0 => Function.injective_id
  | n + 1 => crcRound_injective.comp (repeat_crcRound_injective n)

/-- Rounds that shift no set bit out are a shift. -/
theorem repeat_crcRound_of_lt {r : Word16} {n : Nat} (h : r.toNat * 2 ^ n < 2 ^ 16) : Nat.repeat crcRound n r = r <<< n := by
  induction n with
  | zero => simp [Nat.repeat]
  | succ n ih =>
    rw [Nat.pow_succ, ← Nat.mul_assoc] at h
    have inRange : r.toNat * 2 ^ n < 2 ^ 16 := by omega
    have top : (r <<< n).msb = false := by
      rw [BitVec.msb_eq_false_iff_two_mul_lt, BitVec.toNat_shiftLeft, Nat.shiftLeft_eq, Nat.mod_eq_of_lt inRange]
      omega
    rw [Nat.repeat, ih inRange, crcRound, top, BitVec.shiftLeft_add]
    rfl

theorem crcByte_injective_register (b : Byte) : Function.Injective (crcByte · b) := fun _ _ h =>
  (BitVec.xor_left_inj _).mp (repeat_crcRound_injective 8 h)

theorem crcByte_injective_byte (r : Word16) : Function.Injective (crcByte r) := by
  intro a b h
  have high : a.setWidth 16 <<< 8 = b.setWidth 16 <<< 8 := (BitVec.xor_right_inj _).mp (repeat_crcRound_injective 8 h)
  apply BitVec.eq_of_getLsbD_eq
  intro i hi
  have bit := congrArg (·.getLsbD (i + 8)) high
  simpa [show i + 8 < 16 by omega, show i < 16 by omega] using bit

/-! ### A byte sequence -/

theorem crcFold_injective_register (s : List Byte) : Function.Injective (s.foldl crcByte) := by
  induction s with
  | nil => exact Function.injective_id
  | cons b s ih => exact ih.comp (crcByte_injective_register b)

/-- One byte that differs makes the checksum differ. -/
theorem crc16_ne_of_byte_ne (pre post : List Byte) {a b : Byte} (h : a ≠ b) :
    crc16 (pre ++ a :: post) ≠ crc16 (pre ++ b :: post) := by
  rw [crc16_append, crc16_append]
  exact (crcFold_injective_register post).ne ((crcByte_injective_byte (crc16 pre)).ne h)

theorem crc16_set_ne {s : List Byte} {i : Nat} (hi : i < s.length) {b : Byte} (h : b ≠ s[i]) :
    crc16 (s.set i b) ≠ crc16 s := by
  have whole : s.take i ++ s[i] :: s.drop (i + 1) = s := by rw [List.getElem_cons_drop, List.take_append_drop]
  rw [List.set_eq_take_append_cons_drop, if_pos hi]
  conv_rhs => rw [← whole]
  exact crc16_ne_of_byte_ne _ _ h

/-! ### The checksum after what it covers -/

/-- A register taken over its own two bytes is zero: each byte cancels the half it meets. -/
theorem crcByte_crcByte_self (h l : Byte) : crcByte (crcByte (h ++ l) h) l = 0 := by
  have cancel : (h ++ l) ^^^ h.setWidth 16 <<< 8 = l.setWidth 16 := by
    apply BitVec.eq_of_getLsbD_eq
    intro i hi
    simp only [BitVec.getLsbD_xor, BitVec.getLsbD_append, BitVec.getLsbD_shiftLeft, BitVec.getLsbD_setWidth]
    grind
  have fits : (l.setWidth 16).toNat * 2 ^ 8 < 2 ^ 16 := by
    have := l.isLt
    rw [BitVec.toNat_setWidth]
    omega
  have first : crcByte (h ++ l) h = l.setWidth 16 <<< 8 := by rw [crcByte, cancel, repeat_crcRound_of_lt fits]
  rw [first, crcByte, BitVec.xor_self]
  rfl

/-- The checksum over a sequence and two more bytes is zero exactly when these are the sequence's own checksum. -/
theorem crc16_append_word_eq_zero_iff (s : List Byte) (h l : Byte) : crc16 (s ++ [h, l]) = 0 ↔ crc16 s = h ++ l := by
  rw [crc16_append, ← crcByte_crcByte_self h l]
  exact (crcFold_injective_register [h, l]).eq_iff

end Sys2Proof.Machine
end

section
/-! The obligations about the checksum (41_crc.md). -/

namespace Sys2Proof.Machine

section
variable {fb : List Byte} (hlen : fb.length = 284)
include hlen

/-- Offsets 2 to 281 are the covered bytes and then the stored checksum. -/
theorem covered_append_checksum :
    (fb.drop 2).take 280 = (fb.drop crcLo).take crcLen ++ [byteAt fb cksumOff, byteAt fb (cksumOff + 1)] := by
  have two : (fb.drop 280).take 2 = [byteAt fb 280, byteAt fb 281] := by
    rw [List.drop_eq_getElem_cons (by omega), List.drop_eq_getElem_cons (by omega), List.take_succ_cons, List.take_succ_cons,
      List.take_zero]
    simp [byteAt, List.getD, hlen]
  rw [show 280 = 278 + 2 from rfl, List.take_add, List.drop_drop, ← two]

theorem crcOk_iff_residue : crcOk fb = true ↔ crc16 ((fb.drop 2).take 280) = 0 := by
  have covered := memRead_of_le (m := fb) (a := crcLo) (n := crcLen) (by rw [hlen]; decide)
  have stored := u16be_of_lt (m := fb) (o := cksumOff) (by rw [hlen]; decide)
  rw [crcOk_of covered stored, beq_iff_eq, covered_append_checksum hlen, crc16_append_word_eq_zero_iff]

end

/-- A one in one bit changes a byte. -/
theorem xor_bit_ne (b : Byte) {k : Nat} (hk : k < 8) : b ^^^ (1 : Byte) <<< k ≠ b := by
  intro h
  have bit := congrArg (·.getLsbD k) h
  simp [hk] at bit

/-- Settles O19: the stored checksum is the one word after the covered bytes that takes their checksum to zero. -/
theorem crcResidueLaw : Obligations.CrcResidueLaw := fun _ h => crcOk_iff_residue h

/-- Settles O20: the residue is zero, and any one changed byte makes it another word. -/
theorem singleBitErrorsDetected : Obligations.SingleBitErrorsDetected := by
  intro fb o k hlen hok hlo hhi hk
  have inside : o - 2 < ((fb.drop 2).take 280).length := by simp; omega
  have same : ((fb.drop 2).take 280)[o - 2] = byteAt fb o := by
    simp [byteAt, List.getD, show 2 + (o - 2) = o by omega, show o < fb.length by omega]
  have moved := crc16_set_ne inside ((xor_bit_ne (byteAt fb o) hk).trans_eq same.symm)
  rw [(crcOk_iff_residue hlen).mp hok, ← List.take_set] at moved
  rw [Bool.eq_false_iff, ne_eq, crcOk_iff_residue (by rw [List.length_set, hlen]), List.drop_set, if_neg (by omega)]
  exact moved

/-- Settles O18, a fixed value, by evaluation. -/
theorem crcCheckValue : Obligations.CrcCheckValue := by
  unfold Obligations.CrcCheckValue
  decide +kernel

end Sys2Proof.Machine
end

section
/-! SUPPORT. What the framer does not read (R155): the image assembly, the counters and the events. No operation reads them to decide
what it leaves elsewhere or which outcomes it reports. -/

namespace Sys2Proof.Machine

/-- The state with everything R155 says the framer never reads made empty. -/
def framerView (s : State) : State :=
  { s with
    imgOpen := false, imgCount := 0, imgBuf := [], cntFrames := 0, cntImages := 0, cntLenFail := 0, cntCrcFail := 0
    events := [] }

/-- States with the same view differ only in what the view makes empty. -/
theorem eq_of_framerView_eq {t t' : State} (h : framerView t = framerView t') :
    t' = { t with
      imgOpen := t'.imgOpen, imgCount := t'.imgCount, imgBuf := t'.imgBuf, cntFrames := t'.cntFrames
      cntImages := t'.cntImages, cntLenFail := t'.cntLenFail, cntCrcFail := t'.cntCrcFail, events := t'.events } := by
  cases t
  cases t'
  simp only [framerView, State.mk.injEq] at h
  simp [h]

/-- `t` appends to the events of `s` events whose OUTCOMEs are those of the list `os`. -/
def ReportsOutcomesOf (s t : State) (os : List Event) : Prop :=
  ∃ es, t.events = s.events ++ es ∧ es.filter isOutcome = os.filter isOutcome

/-- The operation does to a state what it does to the state's view, and reports the same outcomes. -/
def ReadsOnlyView (f : State → State) : Prop :=
  ∀ s, framerView (f s) = framerView (f (framerView s)) ∧ ReportsOutcomesOf s (f s) (f (framerView s)).events

/-! ### What reads only the view -/

/-- An operation that neither reads nor writes what the view makes empty. -/
theorem readsOnlyView_of_commutes {f : State → State} (hview : ∀ s, f (framerView s) = framerView (f s))
    (hevents : ∀ s, (f s).events = s.events) : ReadsOnlyView f := fun s =>
  ⟨by rw [hview]; rfl, [], by rw [hevents, List.append_nil], by rw [hview]; rfl⟩

/-- An operation that writes nothing but what the view makes empty, and reports no outcome. -/
theorem readsOnlyView_of_hidden {f : State → State} (hview : ∀ s, framerView (f s) = framerView s)
    (hevents : ∀ s, ReportsOutcomesOf s (f s) []) : ReadsOnlyView f := by
  intro s
  obtain ⟨es, he, hf⟩ := hevents s
  obtain ⟨es', he', hf'⟩ := hevents (framerView s)
  refine ⟨by rw [hview, hview]; rfl, es, he, ?_⟩
  rw [he', hf]
  exact hf'.symm

theorem ReadsOnlyView.comp {f g : State → State} (hg : ReadsOnlyView g) (hf : ReadsOnlyView f) :
    ReadsOnlyView fun s => g (f s) := by
  intro s
  obtain ⟨viewF, es, appendF, outcomesF⟩ := hf s
  obtain ⟨viewG, es', appendG, outcomesG⟩ := hg (f s)
  obtain ⟨viewG', es'', appendG', outcomesG'⟩ := hg (f (framerView s))
  refine ⟨by rw [viewG, viewF, ← viewG'], es ++ es', by rw [appendG, appendF, List.append_assoc], ?_⟩
  rw [appendG', List.filter_append, List.filter_append, outcomesF, outcomesG, outcomesG', viewF]

theorem id_readsOnlyView : ReadsOnlyView id := readsOnlyView_of_commutes (fun _ => rfl) fun _ => rfl
theorem refuse_readsOnlyView : ReadsOnlyView refuse := readsOnlyView_of_commutes (fun _ => rfl) fun _ => rfl
theorem clearFramer_readsOnlyView : ReadsOnlyView clearFramer := readsOnlyView_of_commutes (fun _ => rfl) fun _ => rfl
theorem clearDestuffer_readsOnlyView : ReadsOnlyView clearDestuffer := readsOnlyView_of_commutes (fun _ => rfl) fun _ => rfl
theorem clearExtractor_readsOnlyView : ReadsOnlyView clearExtractor := readsOnlyView_of_commutes (fun _ => rfl) fun _ => rfl
theorem consumeFrame_readsOnlyView : ReadsOnlyView consumeFrame := readsOnlyView_of_commutes (fun _ => rfl) fun _ => rfl
theorem markOver_readsOnlyView : ReadsOnlyView markOver := readsOnlyView_of_commutes (fun _ => rfl) fun _ => rfl
theorem appendAcc_readsOnlyView (b : Byte) : ReadsOnlyView (appendAcc b) :=
  readsOnlyView_of_commutes (fun _ => rfl) fun _ => rfl
theorem loadFrame_readsOnlyView (fb : Memory) : ReadsOnlyView (loadFrame fb) :=
  readsOnlyView_of_commutes (fun _ => rfl) fun _ => rfl
theorem destuffed_readsOnlyView (b : Byte) (n : Nat) : ReadsOnlyView (destuffed b n) :=
  readsOnlyView_of_commutes (fun _ => rfl) fun _ => rfl
theorem ambiguous_readsOnlyView : ReadsOnlyView ambiguous := readsOnlyView_of_commutes (fun _ => rfl) fun _ => rfl
theorem setInputs_readsOnlyView (xs : List Input) : ReadsOnlyView (setInputs xs) :=
  readsOnlyView_of_commutes (fun _ => rfl) fun _ => rfl
theorem setRun_readsOnlyView (r : RunState) : ReadsOnlyView (setRun r) :=
  readsOnlyView_of_commutes (fun _ => rfl) fun _ => rfl

theorem emit_readsOnlyView (e : Event) : ReadsOnlyView (emit e) := fun _ => ⟨rfl, [e], rfl, rfl⟩

theorem countOutcome_readsOnlyView (o : FrameOutcome) : ReadsOnlyView (countOutcome o) := fun _ =>
  ⟨rfl, [], (List.append_nil _).symm, rfl⟩

theorem zeroCounters_readsOnlyView : ReadsOnlyView zeroCounters := fun _ => ⟨rfl, [], (List.append_nil _).symm, rfl⟩

theorem reportOutcome_readsOnlyView (o : FrameOutcome) : ReadsOnlyView (reportOutcome o) :=
  (emit_readsOnlyView _).comp (countOutcome_readsOnlyView o)

/-! ### The telemetry decoder -/

theorem statusBytes_readsOnlyView (bs : List Byte) : ReadsOnlyView (statusBytes bs) :=
  readsOnlyView_of_commutes (fun s => by rw [statusBytes_eq, statusBytes_eq]; rfl) fun s => by rw [statusBytes_eq]

theorem convertCoordinates_readsOnlyView (g : GpsReads) : ReadsOnlyView (convertCoordinates g) :=
  readsOnlyView_of_commutes (fun s => by rw [convertCoordinates_eq, convertCoordinates_eq]; rfl) fun s => by
    rw [convertCoordinates_eq]

/-- The record is read from the decoder's own registers, which the view keeps. -/
theorem deliverTelemetry_readsOnlyView (f : FieldReads) (g : Option GpsReads) : ReadsOnlyView (deliverTelemetry f g) := fun s =>
  consumeFrame_readsOnlyView.comp (clearExtractor_readsOnlyView.comp (emit_readsOnlyView
    (.telemetry (recordOf f s.pduStatuses) (g.map fun r => fixOf r s.latitude s.longitude)))) s

theorem ftTelemetry_readsOnlyView : ReadsOnlyView ftTelemetry := by
  intro s
  have fields (f : FieldReads) := (statusBytes_readsOnlyView f.statusBytes).comp clearExtractor_readsOnlyView
  have same : (framerView s).fb = s.fb := rfl
  unfold ftTelemetry
  rw [same]
  cases readFields s.fb with
  | none => exact refuse_readsOnlyView s
  | some f =>
    dsimp only
    split_ifs
    · cases readGps s.fb with
      | none => exact refuse_readsOnlyView s
      | some g =>
        exact (deliverTelemetry_readsOnlyView f (some g)).comp ((convertCoordinates_readsOnlyView g).comp (fields f)) s
    · exact (deliverTelemetry_readsOnlyView f none).comp (fields f) s

/-! ### The image reassembler -/

theorem openIfNeeded_readsOnlyView (seq : Byte) : ReadsOnlyView (openIfNeeded seq) :=
  readsOnlyView_of_hidden (fun s => by unfold openIfNeeded; split <;> rfl)
    fun s => ⟨[], by unfold openIfNeeded; split <;> simp, rfl⟩

theorem appendChunk_readsOnlyView (slice : List Byte) : ReadsOnlyView (appendChunk slice) :=
  readsOnlyView_of_hidden (fun _ => rfl) fun _ => ⟨[], (List.append_nil _).symm, rfl⟩

/-- Whether the assembly is complete decides an IMAGE event, which is no outcome. -/
theorem deliverIfComplete_readsOnlyView (seq : Byte) : ReadsOnlyView (deliverIfComplete seq) := by
  refine readsOnlyView_of_hidden (fun s => by unfold deliverIfComplete; split <;> rfl) fun s => ?_
  unfold deliverIfComplete
  split
  · exact ⟨[.image s.imgBuf], rfl, rfl⟩
  · exact ⟨[], (List.append_nil _).symm, rfl⟩

theorem imageChunk_readsOnlyView (seq : Byte) : ReadsOnlyView (imageChunk seq) := by
  intro s
  have same : (framerView s).fb = s.fb := rfl
  unfold imageChunk
  rw [same]
  cases memRead s.fb imgLo imgLen with
  | none => exact refuse_readsOnlyView s
  | some slice =>
    exact consumeFrame_readsOnlyView.comp ((deliverIfComplete_readsOnlyView seq).comp
      ((appendChunk_readsOnlyView slice).comp (openIfNeeded_readsOnlyView seq))) s

/-! ### The framer -/

theorem tagByte_readsOnlyView (t : Byte) : ReadsOnlyView (tagByte t) := by
  intro s
  unfold tagByte
  split_ifs
  · exact ftTelemetry_readsOnlyView s
  · exact imageChunk_readsOnlyView _ s
  · exact imageChunk_readsOnlyView _ s
  · exact imageChunk_readsOnlyView t s

theorem classifyFrame_readsOnlyView : ReadsOnlyView classifyFrame := by
  intro s
  have same : (framerView s).fb = s.fb := rfl
  unfold classifyFrame
  rw [same]
  cases memByte s.fb tagOff with
  | none => exact refuse_readsOnlyView s
  | some t => exact tagByte_readsOnlyView t s

theorem finishFrame_readsOnlyView (o : FrameOutcome) (fb : Memory) : ReadsOnlyView (finishFrame o fb) := by
  intro s
  unfold finishFrame
  split_ifs
  · exact classifyFrame_readsOnlyView.comp ((loadFrame_readsOnlyView fb).comp (reportOutcome_readsOnlyView o)) s
  · exact reportOutcome_readsOnlyView o s

theorem destuffScan_readsOnlyView (r : List Byte) : ReadsOnlyView (destuffScan r) := by
  induction r using destuff_induction with
  | nil => exact id_readsOnlyView
  | trunc => exact ambiguous_readsOnlyView
  | pair c rest ih =>
    intro s
    rw [destuffScan_pair, destuffScan_pair]
    split_ifs
    · exact ih.comp (destuffed_readsOnlyView 0xCA 2) s
    · exact ih.comp (destuffed_readsOnlyView 0xEF 2) s
    · exact ih.comp (destuffed_readsOnlyView 0xBD 2) s
    · exact ambiguous_readsOnlyView s
  | lit b rest hb ih =>
    intro s
    rw [destuffScan_lit rest _ hb, destuffScan_lit rest _ hb]
    exact ih.comp (destuffed_readsOnlyView b 1) s

theorem destuffFrame_readsOnlyView (r : List Byte) : ReadsOnlyView (destuffFrame r) :=
  (destuffScan_readsOnlyView r).comp clearDestuffer_readsOnlyView

theorem completeRf_readsOnlyView (r : List Byte) (overflow : Bool) : ReadsOnlyView (completeRf r overflow) := by
  have finish : ReadsOnlyView fun s => finishFrame (reportedOutcome (rfError overflow s.dsAmbiguous s.dsOut)) s.dsOut
      (clearDestuffer s) := fun s => (finishFrame_readsOnlyView _ _).comp clearDestuffer_readsOnlyView s
  cases overflow with
  | true => exact finish
  | false => exact finish.comp (destuffFrame_readsOnlyView r)

theorem completeRs_readsOnlyView (raw : List Byte) : ReadsOnlyView (completeRs raw) := finishFrame_readsOnlyView _ _

theorem rfEnd_readsOnlyView : ReadsOnlyView rfEnd := by
  intro s
  have same : (framerView s).inside = s.inside := rfl
  unfold rfEnd
  rw [same]
  split
  · exact (completeRf_readsOnlyView _ _).comp clearFramer_readsOnlyView s
  · exact id_readsOnlyView s

theorem rfData_readsOnlyView (b : Byte) : ReadsOnlyView (rfData b) := by
  intro s
  have sameInside : (framerView s).inside = s.inside := rfl
  have sameAcc : (framerView s).acc = s.acc := rfl
  unfold rfData
  rw [sameInside, sameAcc]
  split_ifs
  · exact appendAcc_readsOnlyView b s
  · exact markOver_readsOnlyView s
  · exact id_readsOnlyView s

theorem rsData_readsOnlyView (b : Byte) : ReadsOnlyView (rsData b) := by
  intro s
  have same : (appendAcc b (framerView s)).acc = (appendAcc b s).acc := rfl
  unfold rsData
  rw [same]
  split_ifs
  · exact (completeRs_readsOnlyView _).comp clearFramer_readsOnlyView s
  · exact appendAcc_readsOnlyView b s

/-! ### Every token, and the step -/

theorem exec_readsOnlyView (i : Instr) : ∃ f, (∀ s, exec i s = .next (f s)) ∧ ReadsOnlyView f := by
  cases i with
  | rfEnd => exact ⟨_, exec_rfEnd, rfEnd_readsOnlyView⟩
  | rfData b => exact ⟨_, fun s => exec_rfData s b, rfData_readsOnlyView b⟩
  | rsData b => exact ⟨_, fun s => exec_rsData s b, rsData_readsOnlyView b⟩
  | rawBypass b => exact ⟨_, fun s => exec_rawBypass s b, emit_readsOnlyView _⟩
  | ftTelemetry => exact ⟨_, exec_ftTelemetry, ftTelemetry_readsOnlyView⟩
  | ftImgFirst => exact ⟨_, exec_ftImgFirst, imageChunk_readsOnlyView _⟩
  | ftImgLast => exact ⟨_, exec_ftImgLast, imageChunk_readsOnlyView _⟩
  | ftImgMid tag => exact ⟨_, fun s => exec_ftImgMid s tag, imageChunk_readsOnlyView tag⟩
  | cmdResetCounters => exact ⟨_, exec_cmdResetCounters, zeroCounters_readsOnlyView⟩
  | srcTransportError => exact ⟨_, exec_srcTransportError, (setRun_readsOnlyView _).comp (emit_readsOnlyView _)⟩
  | _ => exact ⟨_, fun _ => rfl, readsOnlyView_of_commutes (fun _ => rfl) fun _ => rfl⟩

/-- Whether an input is taken, and which token it is, the view decides: a state and its view run the same operation. -/
theorem step_and_step_view {s : State} (hu : s.unitToken = none) :
    ∃ f, ReadsOnlyView f ∧ step s = .next (f s) ∧ step (framerView s) = .next (f (framerView s)) := by
  cases hi : s.inputs with
  | nil =>
    have waits {u : State} (hu : u.unitToken = none) (hi : u.inputs = []) : step u = .next u := by simp [step, fetch, hu, hi]
    exact ⟨id, id_readsOnlyView, waits hu hi, waits hu hi⟩
  | cons x rest =>
    have taken : fetch s = takeInput x (setInputs rest s) := fetch_input hu hi
    have takenView : fetch (framerView s) = takeInput x (setInputs rest (framerView s)) := fetch_input hu hi
    have accepts : acceptsInput (framerView s) = acceptsInput s := rfl
    have context : inputContext (framerView s) x = inputContext s x := by cases x <;> rfl
    by_cases hacc : acceptsInput s = true
    · obtain ⟨i, bs, hd, _⟩ := decode_input s x
      obtain ⟨f, hexec, hf⟩ := exec_readsOnlyView i
      refine ⟨_, hf.comp (setInputs_readsOnlyView rest), ?_, ?_⟩
      · simp [step, taken, takeInput, hacc, hd, hexec]
      · simp [step, takenView, takeInput, accepts, hacc, context, hd, hexec]
    · exact ⟨_, setInputs_readsOnlyView rest, by simp [step, taken, takeInput, hacc],
        by simp [step, takenView, takeInput, accepts, hacc]⟩

theorem step_framerView {s t : State} (hu : s.unitToken = none) (h : step s = .next t) :
    ∃ v, step (framerView s) = .next v ∧ framerView t = framerView v ∧ ReportsOutcomesOf s t v.events := by
  obtain ⟨f, hf, hs, hv⟩ := step_and_step_view hu
  rw [h] at hs
  cases hs
  exact ⟨_, hv, hf s⟩

/-- Settles O53: both states have one view, and each steps as that view does. -/
theorem framerReadsOnlyItsState : Obligations.FramerReadsOnlyItsState := by
  intro s t t' io ic ib cf ci cl cc ev hu s' h h'
  obtain ⟨v, hv, viewT, es, appends, outcomes⟩ := step_framerView hu h
  obtain ⟨v', hv', viewT', es', appends', outcomes'⟩ := step_framerView (s := s') hu h'
  have same : v = v' := Host.Outcome.next.inj (hv.symm.trans hv')
  subst same
  exact ⟨eq_of_framerView_eq (viewT.trans viewT'.symm), es, es', appends, appends', outcomes.trans outcomes'.symm⟩

end Sys2Proof.Machine
end

section
/-! SUPPORT. How a candidate frame is classified, with the unbounded outcome `rfOutcomeOf` of a raw frame as the measure (R144,
R147). -/

namespace Sys2Proof.Machine

/-! ### The unbounded outcome -/

section
variable {r d : List Byte}

theorem rfOutcomeOf_of_ambiguous (h : destuffOf r = none) : rfOutcomeOf r = .lengthInvalid := by
  rw [rfOutcomeOf, h]

variable (h : destuffOf r = some d)
include h

theorem rfOutcomeOf_of_length_ne (hl : d.length ≠ 284) : rfOutcomeOf r = .lengthInvalid := by
  rw [rfOutcomeOf, h]; exact if_neg hl

theorem rfOutcomeOf_of_length (hl : d.length = 284) : rfOutcomeOf r = if crcOk d = true then .ok else .checksumInvalid := by
  rw [rfOutcomeOf, h]; exact if_pos hl

/-- Only a frame of 284 bytes is Ok. -/
theorem length_of_rfOutcomeOf_ok (ho : rfOutcomeOf r = .ok) : d.length = 284 := by
  by_contra hl
  exact absurd ((rfOutcomeOf_of_length_ne h hl).symm.trans ho) nofun

/-- The errors of R144 in their order give the unbounded outcome where the body did not overflow. -/
theorem reportedOutcome_rfError : reportedOutcome (rfError false false d) = rfOutcomeOf r := by
  rw [rfError, if_neg nofun, if_neg nofun]
  by_cases hl : d.length = 284
  · rw [rfOutcomeOf_of_length h hl, if_pos hl, checksumError]
    split_ifs <;> rfl
  · rw [rfOutcomeOf_of_length_ne h hl, if_neg hl]; rfl

end

/-! ### Completion -/

/-- A frame whose body overflowed is reported as LengthInvalid, whatever the de-stuffer's registers hold (R145). -/
theorem completeRf_overflow (r : List Byte) (s : State) :
    completeRf r true s = reportOutcome .lengthInvalid (clearDestuffer s) := finishFrame_failed _ _ nofun

theorem completeRf_of_failed {r : List Byte} (ho : rfOutcomeOf r ≠ .ok) (s : State) :
    completeRf r false s = reportOutcome (rfOutcomeOf r) (clearDestuffer s) := by
  cases hr : destuffOf r with
  | none =>
    obtain ⟨out, pos, e⟩ := destuffFrame_of_none hr s
    rw [completeRf, if_neg nofun, e, rfOutcomeOf_of_ambiguous hr]
    exact finishFrame_failed _ _ nofun
  | some d =>
    rw [completeRf, if_neg nofun, destuffFrame_of_some hr, reportedOutcome_rfError hr]
    exact finishFrame_failed _ _ ho

theorem completeRf_of_ok {r d : List Byte} (ho : rfOutcomeOf r = .ok) (hr : destuffOf r = some d) (s : State) :
    completeRf r false s = tagByte (byteAt d 2) (loadFrame d (reportOutcome .ok (clearDestuffer s))) := by
  rw [completeRf, if_neg nofun, destuffFrame_of_some hr, reportedOutcome_rfError hr, ho]
  exact finishFrame_ok _ (length_of_rfOutcomeOf_ok hr ho)

theorem completeRs_of_failed {raw : List Byte} (hc : crcOk ([sentStart] ++ raw ++ [sentEnd]) = false) (s : State) :
    completeRs raw s = reportOutcome .checksumInvalid s := by
  rw [completeRs, checksumError, if_neg (ne_true_of_eq_false hc)]
  exact finishFrame_failed _ _ nofun

/-! ### The tokens that complete a frame -/

theorem rfEnd_outside {s : State} (h : s.inside = false) : rfEnd s = s := if_neg (ne_true_of_eq_false h)

theorem rfEnd_inside {s : State} (h : s.inside = true) :
    rfEnd s = completeRf (s.acc ++ [0xEF]) s.accOver (clearFramer s) := if_pos h

theorem rsData_accumulates {s : State} (b : Byte) (h : s.acc.length ≠ 281) : rsData b s = appendAcc b s :=
  if_neg (by simpa [rs422Body] using h)

theorem rsData_completes {s : State} (b : Byte) (h : s.acc.length = 281) :
    rsData b s = completeRs (s.acc ++ [b]) (clearFramer s) := if_pos (by simp [h, rs422Body])

/-- Settles O3: the unbounded outcome decides each case but the overflow, and an Ok frame goes to its tag's token. -/
theorem rfEndClassifiesFrame : Obligations.RfEndClassifiesFrame := by
  intro s
  refine ⟨fun hi => ?_, fun hi => ?_⟩
  · rw [exec_rfEnd, rfEnd_outside hi]
  intro r c
  have reported {o : FrameOutcome} (hr : rfOutcomeOf r = o) (ho : o ≠ .ok) (hover : s.accOver = false) :
      exec .rfEnd s = .next (reportOutcome o (clearDestuffer (clearFramer s))) := by
    rw [exec_rfEnd, rfEnd_inside hi, hover, completeRf_of_failed (by rw [hr]; exact ho), hr]
  refine ⟨fun h => ?_, fun d hover hr hl hc => ?_, fun d hover hr hl hc => ?_⟩
  · cases hover : s.accOver with
    | true => rw [exec_rfEnd, rfEnd_inside hi, hover, completeRf_overflow]; rfl
    | false =>
      rcases h with overflow | hr | ⟨d, hr, hl⟩
      · exact absurd (hover.symm.trans overflow) nofun
      · exact reported (rfOutcomeOf_of_ambiguous hr) nofun hover
      · exact reported (rfOutcomeOf_of_length_ne hr hl) nofun hover
  · exact reported ((rfOutcomeOf_of_length hr hl).trans (if_neg (ne_true_of_eq_false hc))) nofun hover
  · have ok : rfOutcomeOf r = .ok := (rfOutcomeOf_of_length hr hl).trans (if_pos hc)
    refine ⟨_, exec_decodeTag _ _, ?_⟩
    rw [exec_rfEnd, rfEnd_inside hi, hover, completeRf_of_ok ok hr]
    rfl

/-- Settles O4: the 282nd byte completes the frame, whose checksum alone is left to decide. -/
theorem rsDataCompletesAt282 : Obligations.RsDataCompletesAt282 := by
  intro s b
  refine ⟨fun hl => ?_, fun hl => ?_⟩
  · rw [exec_rsData, rsData_accumulates b hl]; rfl
  refine ⟨fun hc => ?_, fun hc => ⟨_, exec_decodeTag _ _, ?_⟩⟩
  · rw [exec_rsData, rsData_completes b hl, completeRs_of_failed hc]; rfl
  · rw [exec_rsData, rsData_completes b hl, completeRs_ok _ (by simp [hl]) hc]; rfl

end Sys2Proof.Machine
end

section
/-! SUPPORT. The tokens of a stream byte that complete no frame, and which token a stream byte is (R140). -/

namespace Sys2Proof.Machine

/-- Settles O1: opening a frame sets the accumulation and its two flags. -/
theorem rfStartOpensFreshFrame : Obligations.RfStartOpensFreshFrame := fun s => exec_rfStart s

theorem rfData_outside {s : State} (b : Byte) (h : s.inside = false) : rfData b s = s := if_neg (ne_true_of_eq_false h)

/-- The room left in the body, told by the length of the accumulation with its start sentinel. -/
theorem body_lt_cap_iff (s : State) : s.acc.length - 1 < rfBodyCap ↔ s.acc.length < rfBodyCap + 1 := by
  have := le_rfBodyCap
  omega

theorem rfData_inside {s : State} (b : Byte) (h : s.inside = true) :
    rfData b s = if s.acc.length < rfBodyCap + 1 then appendAcc b s else markOver s := by
  rw [rfData, if_pos h]
  exact if_congr (body_lt_cap_iff s) rfl rfl

/-- Settles O2, outside a frame and inside. -/
theorem rfDataAccumulates : Obligations.RfDataAccumulates := by
  intro s b
  rw [exec_rfData]
  by_cases hi : s.inside = false
  · rw [rfData_outside b hi, if_pos hi]
  · rw [rfData_inside b (eq_true_of_ne_false hi), if_neg hi]; rfl

/-- Settles O5: the byte is emitted. -/
theorem rawBypassForwardsByte : Obligations.RawBypassForwardsByte := exec_rawBypass

/-- Settles O6: bypass and mode give the table of a stream byte, and the table its token. -/
theorem streamByteDispatch : Obligations.StreamByteDispatch := by
  intro s b rest hl hi s'
  have token {i : Instr} (hd : decode (inputContext s (.byte b)) [b] = .ok (i, [])) : step s = exec i s' :=
    step_decoded_input hl hi hd
  have rf (hb : s.bypass = .framed) (hm : s.mode = .rf) : step s = exec (decodeRf b) s' :=
    token (by simp [inputContext, hb, hm])
  refine ⟨fun hb => token (by simp [inputContext, hb]), fun hb hm => token (by simp [inputContext, hb, hm]),
    fun hb hm hs => ?_, fun hb hm he => ?_, fun hb hm hs he => ?_⟩
  · rw [rf hb hm, hs]; rfl
  · rw [rf hb hm, he]; rfl
  · rw [rf hb hm, decodeRf_of_ne hs he]

/-- Settles O24: outside a frame an end sentinel and a body byte do nothing, and a start sentinel opens a frame anywhere. -/
theorem rfResynchronises : Obligations.RfResynchronises := by
  intro s b rest hl hm hb hi
  obtain ⟨-, -, start, stop, data⟩ := streamByteDispatch s b rest hl hi
  refine ⟨fun hs => ?_, fun hs ho => ?_⟩
  · rw [start hb hm hs]; exact rfStartOpensFreshFrame _
  by_cases he : b = 0xEF
  · rw [stop hb hm he]; exact congrArg Host.Outcome.next (rfEnd_outside ho)
  · rw [data hb hm hs he]; exact congrArg Host.Outcome.next (rfData_outside b ho)

end Sys2Proof.Machine
end

section
/-! SUPPORT. Which steps touch the image assembly (R149, R238). -/

namespace Sys2Proof.Machine

/-- The assembly of `s` is in `t` as it was, or the events `t` appends begin with OUTCOME(Ok). -/
def AssemblyKeptUnlessOk (s t : State) : Prop :=
  (t.imgOpen = s.imgOpen ∧ t.imgCount = s.imgCount ∧ t.imgBuf = s.imgBuf) ∨ ∃ es, t.events = s.events ++ .outcome .ok :: es

/-- Only an Ok frame goes on to its tag's token, after its outcome is reported. -/
theorem completed_assembly {s t : State} (h : Completed s t) : AssemblyKeptUnlessOk s t := by
  cases h with
  | failed o _ => exact .inl ⟨rfl, rfl, rfl⟩
  | telemetry rec gps => exact .inr ⟨[.telemetry rec gps], by simp [reportOutcome]⟩
  | chunk => exact .inr ⟨[], rfl⟩
  | image buf slice => exact .inr ⟨[.image (buf ++ slice)], by simp [reportOutcome]⟩

theorem tokenEffect_assembly {s t : State} (h : TokenEffect s t) : AssemblyKeptUnlessOk s t := by
  cases h with
  | frameRf _ _ _ _ hc => exact (completed_assembly hc :)
  | frameRs _ _ _ _ hc => exact (completed_assembly hc :)
  | _ => exact .inl ⟨rfl, rfl, rfl⟩

/-- Settles O39: a step that runs no token keeps the assembly, and of the tokens only those that complete a frame touch it. -/
theorem assemblyChangesOnlyOnOkFrame : Obligations.AssemblyChangesOnlyOnOkFrame := by
  intro s t hu h
  rcases step_cases hu h with rfl | ⟨x, rest, _, rfl | ⟨i, _, _, _, he⟩⟩
  · exact .inl ⟨rfl, rfl, rfl⟩
  · exact .inl ⟨rfl, rfl, rfl⟩
  · exact (tokenEffect_assembly he :)

end Sys2Proof.Machine
end

section
/-! SUPPORT. A mode-RF frame of any length on the wire, and why the bounded accumulation gives it the outcome an unbounded one would
(R145): a body past the bound is too long to be 284 bytes however it is stuffed. -/

namespace Sys2Proof.Machine

/-- De-stuffing at most halves a body, so a body of more than 564 bytes leaves more than 282 (R110, R145). -/
theorem rfOutcomeOf_of_long {bs : List Byte} (h : 564 < bs.length) : rfOutcomeOf ([0xCA] ++ bs ++ [0xEF]) = .lengthInvalid := by
  have sentinels := destuffOf_sentinels bs
  cases hd : destuffOf bs with
  | none =>
    rw [hd] at sentinels
    exact rfOutcomeOf_of_ambiguous sentinels
  | some d =>
    rw [hd] at sentinels
    obtain ⟨_, halved⟩ := destuffOf_length_bounds hd
    exact rfOutcomeOf_of_length_ne sentinels (by simp; omega)

section
variable {s : State} (hl : Listening s) (hb : s.bypass = .framed) (hm : s.mode = .rf) (hi : s.inside = true)
include hl hb hm hi

/-! ### The body -/

/-- A byte past the cap is dropped and marks the overflow (R145). -/
theorem step_rfByte_full {b : Byte} (hs : b ≠ sentStart) (he : b ≠ sentEnd) {acc : Memory} (full : acc.length = rfBodyCap + 1)
    (xs : List Input) : step (receiving acc (.byte b :: xs) s) = .next (receiving acc xs (markOver s)) := by
  have noRoom : ¬ (receiving acc xs s).acc.length < rfBodyCap + 1 := full.not_lt
  rw [step_rfByte hl hb hm, decodeRf_of_ne hs he, exec_rfData, rfData_inside b (s := receiving acc xs s) hi, if_neg noRoom]
  rfl

/-- Once the overflow is marked, further body bytes change nothing. -/
theorem run_rfBody_full {bs : List Byte} (hbs : ∀ b ∈ bs, b ≠ 0xCA ∧ b ≠ 0xEF) {acc : Memory}
    (full : acc.length = rfBodyCap + 1) (xs : List Input) :
    run bs.length (receiving acc (bs.map .byte ++ xs) (markOver s)) = .next (receiving acc xs (markOver s)) := by
  induction bs with
  | nil => rfl
  | cons b bs ih =>
    obtain ⟨hs, he⟩ := hbs b List.mem_cons_self
    have first := step_rfByte_full (s := markOver s) hl hb hm hi hs he full (bs.map .byte ++ xs)
    exact (run_succ first).trans (ih fun c hc => hbs c (List.mem_cons_of_mem b hc))

/-- A body that fits is accumulated whole. -/
theorem run_rfBody_fits {bs : List Byte} (hbs : ∀ b ∈ bs, b ≠ 0xCA ∧ b ≠ 0xEF) (fits : bs.length ≤ rfBodyCap)
    (xs : List Input) :
    run bs.length (receiving [0xCA] (bs.map .byte ++ xs) s) = .next (receiving ([0xCA] ++ bs) xs s) :=
  run_accumulates xs (fun b hmem => by
    obtain ⟨hs, he⟩ := hbs b hmem
    exact rfByte_accumulates hl hb hm hi hs he) [0xCA] (by simp only [List.length_singleton]; omega)

/-- Of a body that does not fit, the bytes up to the cap are accumulated and the overflow is marked. -/
theorem run_rfBody_overflows {bs : List Byte} (hbs : ∀ b ∈ bs, b ≠ 0xCA ∧ b ≠ 0xEF) (overflows : rfBodyCap < bs.length)
    (xs : List Input) :
    run bs.length (receiving [0xCA] (bs.map .byte ++ xs) s) =
      .next (receiving ([0xCA] ++ bs.take rfBodyCap) xs (markOver s)) := by
  obtain ⟨b, rest, past⟩ : ∃ b rest, bs.drop rfBodyCap = b :: rest := ⟨_, _, List.drop_eq_getElem_cons overflows⟩
  have split : bs = bs.take rfBodyCap ++ b :: rest := by rw [← past, List.take_append_drop]
  have hpast : ∀ c ∈ b :: rest, c ≠ 0xCA ∧ c ≠ 0xEF := fun c hc => hbs c (List.mem_of_mem_drop (past ▸ hc))
  have taken : (bs.take rfBodyCap).length = rfBodyCap := List.length_take_of_le overflows.le
  have full : ([0xCA] ++ bs.take rfBodyCap).length = rfBodyCap + 1 := by
    rw [List.length_append, taken, List.length_singleton, Nat.add_comm]
  have within := run_rfBody_fits hl hb hm hi (fun c hc => hbs c (List.mem_of_mem_take hc)) taken.le
    (.byte b :: (rest.map .byte ++ xs))
  obtain ⟨hs, he⟩ := hpast b List.mem_cons_self
  have first := step_rfByte_full hl hb hm hi hs he full (rest.map .byte ++ xs)
  have others := run_rfBody_full hl hb hm hi (fun c hc => hpast c (List.mem_cons_of_mem b hc)) full xs
  have length : bs.length = (bs.take rfBodyCap).length + (rest.length + 1) := by
    conv_lhs => rw [split, List.length_append, List.length_cons]
  have wire : bs.map Input.byte ++ xs = (bs.take rfBodyCap).map .byte ++ (.byte b :: (rest.map .byte ++ xs)) := by
    conv_lhs => rw [split, List.map_append, List.map_cons, List.append_assoc, List.cons_append]
  rw [length, wire, run_add within, run_succ first, others]

/-! ### The end sentinel -/

theorem step_rfEnd (acc : Memory) :
    step (receiving acc [.byte 0xEF] s) = .next (completeRf (acc ++ [0xEF]) s.accOver (clearFramer (setInputs [] s))) := by
  rw [step_rfByte hl hb hm]
  exact congrArg Host.Outcome.next (rfEnd_inside (s := receiving acc [] s) hi)

end

/-- A whole frame on the wire is completed as it was sent, or its outcome is LengthInvalid however it is buffered. -/
theorem run_rfWire {s : State} {bs : List Byte} (hl : Listening s) (hm : s.mode = .rf) (hb : s.bypass = .framed)
    (hbs : ∀ b ∈ bs, b ≠ 0xCA ∧ b ≠ 0xEF) (hi : s.inputs = ([0xCA] ++ bs ++ [0xEF]).map Input.byte) :
    run ([0xCA] ++ bs ++ [0xEF]).length s =
        .next (completeRf ([0xCA] ++ bs ++ [0xEF]) false (clearFramer (setInputs [] s))) ∨
    rfOutcomeOf ([0xCA] ++ bs ++ [0xEF]) = .lengthInvalid ∧
      run ([0xCA] ++ bs ++ [0xEF]).length s =
        .next (reportOutcome .lengthInvalid (clearDestuffer (clearFramer (setInputs [] s)))) := by
  have length : ([0xCA] ++ bs ++ [0xEF]).length = bs.length + 1 + 1 := by simp
  have opens : step s = .next (receiving [0xCA] (bs.map .byte ++ [.byte 0xEF]) (beginFrame s)) :=
    (rfResynchronises s 0xCA _ hl hm hb (by rw [hi]; simp)).1 rfl
  rcases Nat.lt_or_ge rfBodyCap bs.length with overflows | fits
  · have body := run_rfBody_overflows (s := beginFrame s) hl hb hm rfl hbs overflows [.byte 0xEF]
    have ends := step_rfEnd (s := markOver (beginFrame s)) hl hb hm rfl ([0xCA] ++ bs.take rfBodyCap)
    refine .inr ⟨rfOutcomeOf_of_long (le_rfBodyCap.trans_lt overflows), ?_⟩
    rw [length, run_succ opens, run_add body, run_succ ends, run_zero]
    exact congrArg Host.Outcome.next (completeRf_overflow _ _)
  · have body := run_rfBody_fits (s := beginFrame s) hl hb hm rfl hbs fits [.byte 0xEF]
    have ends := step_rfEnd (s := beginFrame s) hl hb hm rfl ([0xCA] ++ bs)
    refine .inl ?_
    rw [length, run_succ opens, run_add body, run_succ ends, run_zero]
    rfl

/-- Settles O21: a frame completed as it was sent has the unbounded outcome, and one that was not had LengthInvalid anyway. -/
theorem rfBodyCapUnobservable : Obligations.RfBodyCapUnobservable := by
  intro s bs hl hm hb hbs hi r c
  have wire := run_rfWire hl hm hb hbs hi
  refine ⟨fun failed => ?_, fun d ok hd => ⟨_, exec_decodeTag _ _, ?_⟩⟩
  · rcases wire with run | ⟨outcome, run⟩
    · rw [run, completeRf_of_failed failed]; rfl
    · rw [run, ← outcome]; rfl
  · rcases wire with run | ⟨outcome, _⟩
    · rw [run, completeRf_of_ok ok hd, ← ok]; rfl
    · exact absurd (outcome.symm.trans ok) nofun

end Sys2Proof.Machine
end

section
/-! SUPPORT. The magnitude of a binary64 number as a function of its pattern without the sign bit (30_encoding.md R81): it rises
strictly, so between the magnitudes of two neighbouring patterns there is no other. -/

namespace Sys2Proof.Machine

/-- The magnitude a pattern without its sign bit stands for, in units of 2^-1074, carried on past the largest finite number. -/
def magnitudeAt (p : Nat) : Nat :=
  if p / 2 ^ 52 = 0 then p % 2 ^ 52 else (2 ^ 52 + p % 2 ^ 52) * 2 ^ (p / 2 ^ 52 - 1)

/-! ### The parts of a pattern -/

theorem f64Sign_iff (x : F64) : f64Sign x = true ↔ 2 ^ 63 ≤ x.toNat := by
  simp [f64Sign, BitVec.msb_eq_decide]

theorem f64Exp_eq (x : F64) : f64Exp x = x.toNat % 2 ^ 63 / 2 ^ 52 := by
  unfold f64Exp; omega

theorem f64Frac_eq (x : F64) : f64Frac x = x.toNat % 2 ^ 63 % 2 ^ 52 := by
  unfold f64Frac; omega

theorem f64Mag_eq (x : F64) : f64Mag x = magnitudeAt (x.toNat % 2 ^ 63) := by
  simp only [f64Mag, magnitudeAt, f64Exp_eq, f64Frac_eq]

theorem f64IsFinite_iff (x : F64) : f64IsFinite x = true ↔ x.toNat % 2 ^ 63 < 2047 * 2 ^ 52 := by
  have := x.isLt
  simp only [f64IsFinite, f64Exp_eq, bne_iff_ne]
  omega

theorem f64IsInf_iff (x : F64) : f64IsInf x = true ↔ x.toNat % 2 ^ 63 = 2047 * 2 ^ 52 := by
  simp only [f64IsInf, f64Exp_eq, f64Frac_eq, Bool.and_eq_true, beq_iff_eq]
  omega

/-! ### Magnitudes in order -/

/-- A significand of up to 53 bits at the k-th place, the carry to 2^53 included. -/
theorem magnitudeAt_place {k r : Nat} (normal : k = 0 ∨ 2 ^ 52 ≤ r) (fits : r ≤ 2 ^ 53) :
    magnitudeAt (k * 2 ^ 52 + r) = r * 2 ^ k := by
  unfold magnitudeAt
  rcases Nat.lt_or_ge r (2 ^ 52) with subnormal | _
  · have hk : k = 0 := by omega
    rw [if_pos (by omega), hk, Nat.zero_mul, Nat.zero_add, Nat.mod_eq_of_lt subnormal, pow_zero, mul_one]
  rw [if_neg (by omega)]
  rcases Nat.lt_or_ge r (2 ^ 53) with _ | carried
  · have exponent : (k * 2 ^ 52 + r) / 2 ^ 52 - 1 = k := by omega
    have significand : 2 ^ 52 + (k * 2 ^ 52 + r) % 2 ^ 52 = r := by omega
    rw [exponent, significand]
  · have hr : r = 2 ^ 53 := by omega
    have exponent : (k * 2 ^ 52 + r) / 2 ^ 52 - 1 = k + 1 := by omega
    have significand : 2 ^ 52 + (k * 2 ^ 52 + r) % 2 ^ 52 = 2 ^ 52 := by omega
    rw [exponent, significand, hr]
    ring

/-- Every pattern is a significand at a place. -/
theorem exists_place (p : Nat) : ∃ k r, p = k * 2 ^ 52 + r ∧ (k = 0 ∨ 2 ^ 52 ≤ r) ∧ r < 2 ^ 53 :=
  ⟨p / 2 ^ 52 - 1, p - (p / 2 ^ 52 - 1) * 2 ^ 52, by omega, by omega, by omega⟩

theorem magnitudeAt_strictMono : StrictMono magnitudeAt := by
  refine strictMono_nat_of_lt_succ fun p => ?_
  obtain ⟨k, r, rfl, normal, fits⟩ := exists_place p
  rw [Nat.add_assoc, magnitudeAt_place normal fits.le, magnitudeAt_place (by omega) fits]
  exact Nat.mul_lt_mul_of_pos_right r.lt_succ_self (Nat.two_pow_pos k)

/-- No number lies strictly between the magnitudes of two neighbouring patterns. -/
theorem f64Units_outside (y : F64) (p : Nat) :
    f64Units y ≤ magnitudeAt p ∨ (magnitudeAt (p + 1) : Int) ≤ f64Units y := by
  unfold f64Units
  split
  · exact .inl (by omega)
  · rw [f64Mag_eq]
    rcases Nat.lt_or_ge p (y.toNat % 2 ^ 63) with above | below
    · exact .inr (by exact_mod_cast magnitudeAt_strictMono.monotone above)
    · exact .inl (by exact_mod_cast magnitudeAt_strictMono.monotone below)

/-! ### Negation -/

theorem f64Neg_toNat (x : F64) :
    (f64Neg x).toNat % 2 ^ 63 = x.toNat % 2 ^ 63 ∧ f64Sign (f64Neg x) = !f64Sign x := by
  constructor
  · unfold f64Neg
    rw [BitVec.toNat_xor, Nat.xor_mod_two_pow]
    exact Nat.xor_zero _
  · simp only [f64Sign, f64Neg, BitVec.msb_xor]
    exact Bool.xor_true _

theorem f64Neg_isFinite {x : F64} (h : f64IsFinite x = true) : f64IsFinite (f64Neg x) = true := by
  rw [f64IsFinite_iff] at h ⊢
  rwa [(f64Neg_toNat x).1]

theorem f64Units_neg (x : F64) : f64Units (f64Neg x) = -f64Units x := by
  obtain ⟨pattern, sign⟩ := f64Neg_toNat x
  simp only [f64Units, f64Mag_eq, pattern, sign]
  cases f64Sign x <;> simp

end Sys2Proof.Machine
end

section
/-! SUPPORT. One rounding (43_telemetry.md R197, D15): the exact value lies between the magnitudes of two neighbouring patterns, and
`f64Round` takes the nearer of the two, the even one half way. -/

namespace Sys2Proof.Machine

/-! ### The last place kept, and the pattern before the bound -/

/-- The power of two of the last place `f64Round` keeps of n/d. -/
def lastPlace (n d : Nat) : Nat := Nat.log2 (n / d) - 52

/-- The pattern of the largest magnitude that is at most n/d. -/
def flooredPattern (n d : Nat) : Nat := lastPlace n d * 2 ^ 52 + n / (d * 2 ^ lastPlace n d)

/-- The pattern of n/d rounded, carried on past the largest finite number. -/
def roundedPattern (n d : Nat) : Nat := lastPlace n d * 2 ^ 52 + roundHalfEven n (d * 2 ^ lastPlace n d)

theorem f64Round_toNat (neg : Bool) (n d : Nat) :
    (f64Round neg n d).toNat = (if neg then 2 ^ 63 else 0) + min (roundedPattern n d) (2047 * 2 ^ 52) := by
  simp only [f64Round, roundedPattern, lastPlace, BitVec.toNat_ofNat]
  cases neg
  · rw [if_neg Bool.false_ne_true, if_neg Bool.false_ne_true]; omega
  · rw [if_pos rfl, if_pos rfl]; omega

theorem f64Round_pattern (neg : Bool) (n d : Nat) :
    (f64Round neg n d).toNat % 2 ^ 63 = min (roundedPattern n d) (2047 * 2 ^ 52) := by
  rw [f64Round_toNat]
  split <;> omega

theorem f64Sign_round (neg : Bool) (n d : Nat) : f64Sign (f64Round neg n d) = neg := by
  rw [Bool.eq_iff_iff, f64Sign_iff, f64Round_toNat]
  cases neg
  · exact iff_of_false (by rw [if_neg Bool.false_ne_true]; omega) Bool.false_ne_true
  · exact iff_of_true (by rw [if_pos rfl]; omega) rfl

theorem f64Units_round (neg : Bool) {n d : Nat} (h : roundedPattern n d < 2047 * 2 ^ 52) :
    f64Units (f64Round neg n d) = if neg = true then -(magnitudeAt (roundedPattern n d) : Int)
      else magnitudeAt (roundedPattern n d) := by
  rw [f64Units, f64Sign_round, f64Mag_eq, f64Round_pattern, min_eq_left h.le]

/-- The significand that is kept has 53 bits, or fewer in the lowest place. -/
theorem significand_bounds (n d : Nat) :
    (lastPlace n d = 0 ∨ 2 ^ 52 ≤ n / (d * 2 ^ lastPlace n d)) ∧ n / (d * 2 ^ lastPlace n d) < 2 ^ 53 := by
  rw [← Nat.div_div_eq_div_mul]
  generalize hm : n / d = m
  have hk : lastPlace n d = m.log2 - 52 := by rw [lastPlace, hm]
  constructor
  · refine or_iff_not_imp_left.mpr fun hpos => ?_
    have hm0 : m ≠ 0 := by
      rintro rfl
      exact hpos (by rw [hk, Nat.log2_zero])
    rw [Nat.le_div_iff_mul_le (Nat.two_pow_pos _), ← pow_add]
    exact (Nat.pow_le_pow_right two_pos (by omega)).trans (Nat.log2_self_le hm0)
  · rw [Nat.div_lt_iff_lt_mul (Nat.two_pow_pos _), ← pow_add]
    exact Nat.lt_log2_self.trans_le (Nat.pow_le_pow_right two_pos (by omega))

/-- Rounding goes to the nearer whole number, and half way to the even one. -/
theorem roundHalfEven_cases (n d : Nat) :
    (roundHalfEven n d = n / d ∧ 2 * (n % d) ≤ d ∧ (2 * (n % d) = d → roundHalfEven n d % 2 = 0)) ∨
    (roundHalfEven n d = n / d + 1 ∧ d ≤ 2 * (n % d) ∧ (2 * (n % d) = d → roundHalfEven n d % 2 = 0)) := by
  unfold roundHalfEven
  split_ifs <;> omega

/-- A magnitude that is whole in the last place kept. -/
theorem magnitudeAt_lastPlace {n d r : Nat} (h : r = n / (d * 2 ^ lastPlace n d) ∨ r = n / (d * 2 ^ lastPlace n d) + 1) :
    magnitudeAt (lastPlace n d * 2 ^ 52 + r) = r * 2 ^ lastPlace n d := by
  obtain ⟨normal, fits⟩ := significand_bounds n d
  exact magnitudeAt_place (by omega) (by omega)

theorem magnitudeAt_floored (n d : Nat) :
    magnitudeAt (flooredPattern n d) = n / (d * 2 ^ lastPlace n d) * 2 ^ lastPlace n d :=
  magnitudeAt_lastPlace (.inl rfl)

theorem magnitudeAt_floored_succ (n d : Nat) :
    magnitudeAt (flooredPattern n d + 1) = (n / (d * 2 ^ lastPlace n d) + 1) * 2 ^ lastPlace n d := by
  rw [flooredPattern, Nat.add_assoc, magnitudeAt_lastPlace (.inr rfl)]

/-! ### The bracket -/

/-- n/d lies between the magnitudes of two neighbouring patterns. -/
theorem floored_bracket {n d : Nat} (hd : 0 < d) :
    magnitudeAt (flooredPattern n d) * d ≤ n ∧ n < magnitudeAt (flooredPattern n d + 1) * d := by
  have place : 0 < d * 2 ^ lastPlace n d := Nat.mul_pos hd (Nat.two_pow_pos _)
  rw [magnitudeAt_floored, magnitudeAt_floored_succ, Nat.mul_assoc, Nat.mul_assoc, Nat.mul_comm _ d]
  exact ⟨Nat.div_mul_le_self _ _, Nat.mul_comm _ _ ▸ Nat.lt_mul_div_succ n place⟩

/-- The rounded pattern is the one of the nearer neighbour, and the even one half way between them. -/
theorem roundedPattern_cases (n d : Nat) :
    (roundedPattern n d = flooredPattern n d ∧
        2 * n ≤ (magnitudeAt (flooredPattern n d) + magnitudeAt (flooredPattern n d + 1)) * d ∨
      roundedPattern n d = flooredPattern n d + 1 ∧
        (magnitudeAt (flooredPattern n d) + magnitudeAt (flooredPattern n d + 1)) * d ≤ 2 * n) ∧
    (2 * n = (magnitudeAt (flooredPattern n d) + magnitudeAt (flooredPattern n d + 1)) * d → roundedPattern n d % 2 = 0) := by
  have split := Nat.div_add_mod n (d * 2 ^ lastPlace n d)
  have parity : roundedPattern n d % 2 = roundHalfEven n (d * 2 ^ lastPlace n d) % 2 := by unfold roundedPattern; omega
  have half : (magnitudeAt (flooredPattern n d) + magnitudeAt (flooredPattern n d + 1)) * d + 2 * (n % (d * 2 ^ lastPlace n d))
      = 2 * n + d * 2 ^ lastPlace n d := by
    rw [magnitudeAt_floored, magnitudeAt_floored_succ]
    linear_combination 2 * split
  rw [parity]
  unfold roundedPattern flooredPattern at *
  rcases roundHalfEven_cases n (d * 2 ^ lastPlace n d) with ⟨down, near, even⟩ | ⟨up, near, even⟩
  · exact ⟨.inl ⟨by rw [down], by omega⟩, fun tie => even (by omega)⟩
  · exact ⟨.inr ⟨by rw [up, Nat.add_assoc], by omega⟩, fun tie => even (by omega)⟩

/-! ### Nearest, ties to even -/

/-- Of two neighbours about v, the one that is no farther is nearest among all values outside them, and another value is as near
only half way. -/
theorem nearest_of_bracket {low high v z y : Int} (hl : low ≤ v) (hh : v ≤ high) (hy : y ≤ low ∨ high ≤ y)
    (hz : z = low ∧ v - low ≤ high - v ∨ z = high ∧ high - v ≤ v - low) :
    (z - v).natAbs ≤ (y - v).natAbs ∧ ((z - v).natAbs = (y - v).natAbs → y ≠ z → v - low = high - v) := by
  omega

/-- The rounded magnitude is nearest to n/d among the values of all numbers, and its pattern is even where another is as near. -/
theorem roundedPattern_nearest {n d : Nat} (hd : 0 < d) (y : F64) :
    ((magnitudeAt (roundedPattern n d) : Int) * d - n).natAbs ≤ (f64Units y * d - n).natAbs ∧
    (((magnitudeAt (roundedPattern n d) : Int) * d - n).natAbs = (f64Units y * d - n).natAbs →
      f64Units y ≠ magnitudeAt (roundedPattern n d) → roundedPattern n d % 2 = 0) := by
  have hd' : (0 : Int) < d := by exact_mod_cast hd
  obtain ⟨below, above⟩ := floored_bracket (n := n) hd
  obtain ⟨chosen, even⟩ := roundedPattern_cases n d
  have outside := (f64Units_outside y (flooredPattern n d)).imp
    (Int.mul_le_mul_of_nonneg_right · hd'.le) (Int.mul_le_mul_of_nonneg_right · hd'.le)
  have nearest := nearest_of_bracket (z := (magnitudeAt (roundedPattern n d) : Int) * d) (v := n)
    (by exact_mod_cast below) (by exact_mod_cast above.le) outside (by
      rcases chosen with ⟨e, near⟩ | ⟨e, near⟩
      · exact .inl ⟨by rw [e], by zify at near; linarith⟩
      · exact .inr ⟨by rw [e], by zify at near; linarith⟩)
  refine ⟨nearest.1, fun same other => even ?_⟩
  have half := nearest.2 same fun e => other (Int.eq_of_mul_eq_mul_right hd'.ne' e)
  zify
  linarith

theorem nearestEven_round (neg : Bool) {n d : Nat} (hd : 0 < d) (h : roundedPattern n d < 2047 * 2 ^ 52) :
    NearestEven (f64Round neg n d) (if neg = true then -(n : Int) else n) d := by
  intro y _
  have parity : (f64Round neg n d).toNat % 2 = roundedPattern n d % 2 := by
    rw [f64Round_toNat, min_eq_left h.le]
    split <;> omega
  rw [f64Units_round neg h, parity]
  cases neg with
  | false =>
    simp only [Bool.false_eq_true, if_false]
    exact roundedPattern_nearest hd y
  | true =>
    have mirrored (u : Int) : (-u * d - -n).natAbs = (u * d - n).natAbs := by
      rw [← Int.natAbs_neg]; congr 1; ring
    have nearest := roundedPattern_nearest (n := n) hd (f64Neg y)
    rw [f64Units_neg, ← mirrored (-f64Units y), neg_neg, ← mirrored] at nearest
    simp only [if_true]
    exact ⟨nearest.1, fun same other => nearest.2 same fun e => other (by rw [← e, neg_neg])⟩

/-! ### The overflow magnitude -/

/-- The overflow magnitude lies half way between the largest finite magnitude and the next one. -/
theorem two_mul_overflow :
    magnitudeAt (2045 * 2 ^ 52 + (2 ^ 53 - 1)) + magnitudeAt (2045 * 2 ^ 52 + 2 ^ 53) = 2 * f64Overflow := by
  rw [magnitudeAt_place (by omega) (by omega), magnitudeAt_place (by omega) le_rfl, f64Overflow, Nat.pow_succ]
  omega

theorem f64Overflow_pos : 0 < f64Overflow := by
  unfold f64Overflow
  positivity

/-- A value rounds to a finite number exactly below half a last place past the largest one. -/
theorem roundedPattern_lt_iff {n d : Nat} (hd : 0 < d) : roundedPattern n d < 2047 * 2 ^ 52 ↔ n < f64Overflow * d := by
  obtain ⟨below, above⟩ := floored_bracket (n := n) hd
  obtain ⟨chosen, even⟩ := roundedPattern_cases n d
  have middle := two_mul_overflow
  have grows : magnitudeAt (2045 * 2 ^ 52 + (2 ^ 53 - 1)) < magnitudeAt (2045 * 2 ^ 52 + 2 ^ 53) :=
    magnitudeAt_strictMono (by omega)
  rcases lt_trichotomy (flooredPattern n d) (2045 * 2 ^ 52 + (2 ^ 53 - 1)) with finite | largest | infinite
  · have : magnitudeAt (flooredPattern n d + 1) * d ≤ f64Overflow * d :=
      Nat.mul_le_mul_right d ((magnitudeAt_strictMono.monotone finite).trans (by omega))
    exact iff_of_true (by omega) (by omega)
  · have next : flooredPattern n d + 1 = 2045 * 2 ^ 52 + 2 ^ 53 := by omega
    rw [next, largest, middle, Nat.mul_assoc] at chosen even
    constructor <;> intro <;> omega
  · have next : 2045 * 2 ^ 52 + 2 ^ 53 ≤ flooredPattern n d := by omega
    have : f64Overflow * d ≤ magnitudeAt (flooredPattern n d) * d :=
      Nat.mul_le_mul_right d (le_trans (by omega) (magnitudeAt_strictMono.monotone next))
    exact iff_of_false (by omega) (by omega)

/-- Settles O33: below the overflow magnitude the rounded pattern is nearest, and from it on the pattern is held at the infinity. -/
theorem roundingIsNearestEven : Obligations.RoundingIsNearestEven := by
  intro neg n d hd
  have magnitude : (if neg = true then -(n : Int) else n).natAbs = n := by split <;> omega
  refine ⟨f64Sign_round neg n d, ?_⟩
  unfold RoundsTo
  rw [magnitude, ← roundedPattern_lt_iff hd, ← Nat.not_lt, ← roundedPattern_lt_iff hd, f64IsFinite_iff, f64IsInf_iff,
    f64Round_pattern, f64Sign_round]
  refine ⟨fun finite => ⟨by omega, nearestEven_round neg hd finite⟩, fun infinite => ⟨by omega, ?_⟩⟩
  have positive : 0 < n := by
    have overflows := Nat.not_lt.mp (mt (roundedPattern_lt_iff hd).mpr infinite)
    exact (Nat.mul_pos f64Overflow_pos hd).trans_le overflows
  cases neg
  · exact (decide_eq_false (by rw [if_neg Bool.false_ne_true]; omega)).symm
  · exact (decide_eq_true (by rw [if_pos rfl]; omega)).symm

end Sys2Proof.Machine
end

section
/-! SUPPORT. The operations of the conversion (43_telemetry.md R197): each of them is one rounding of the exact result, and a whole
number of at most 2^53 is rounded to itself, so that floor is exact. -/

namespace Sys2Proof.Machine

theorem roundsTo_round (neg : Bool) (n : Nat) {d : Nat} (hd : 0 < d) :
    RoundsTo (f64Round neg n d) (if neg = true then -(n : Int) else n) d := (roundingIsNearestEven neg n d hd).2

/-! ### Quotient and product -/

theorem f64DivNat_roundsTo {x : F64} (hx : f64IsFinite x = true) {d : Nat} (hd : 0 < d) :
    RoundsTo (f64DivNat x d) (f64Units x) d ∧ f64Sign (f64DivNat x d) = f64Sign x := by
  rw [f64DivNat, if_pos hx]
  exact ⟨roundsTo_round _ _ hd, f64Sign_round _ _ _⟩

theorem f64MulNat_roundsTo {x : F64} (hx : f64IsFinite x = true) (m : Nat) :
    RoundsTo (f64MulNat m x) (f64Units x * m) 1 ∧ f64Sign (f64MulNat m x) = f64Sign x := by
  have product : f64Units x * m = if f64Sign x = true then -((f64Mag x * m : Nat) : Int) else (f64Mag x * m : Nat) := by
    unfold f64Units
    split
    · push_cast; ring
    · push_cast; ring
  rw [f64MulNat, if_pos hx, product]
  exact ⟨roundsTo_round _ _ Nat.one_pos, f64Sign_round _ _ _⟩

/-! ### Sum and difference -/

theorem f64Add_of_finite {x y : F64} (hx : f64IsFinite x = true) (hy : f64IsFinite y = true) :
    f64Add x y = if f64Units x + f64Units y = 0 then (if f64Sign x && f64Sign y then 0x8000000000000000#64 else 0)
      else f64Round (f64Units x + f64Units y < 0) (f64Units x + f64Units y).natAbs 1 := by
  have number {z : F64} (hz : f64IsFinite z = true) : f64IsNan z = false ∧ f64IsInf z = false := by
    simp_all [f64IsFinite, f64IsNan, f64IsInf]
  simp [f64Add, number hx, number hy]

/-- Zero of either sign is what an exact zero is rounded to. -/
theorem f64Round_zero (neg : Bool) : f64Round neg 0 1 = if neg then 0x8000000000000000#64 else 0 := by
  cases neg <;> rfl

theorem f64Add_roundsTo {x y : F64} (hx : f64IsFinite x = true) (hy : f64IsFinite y = true) :
    RoundsTo (f64Add x y) (f64Units x + f64Units y) 1 := by
  rw [f64Add_of_finite hx hy]
  generalize f64Units x + f64Units y = sum
  split
  · rename_i zero
    have rounded := roundsTo_round (f64Sign x && f64Sign y) 0 Nat.one_pos
    rw [f64Round_zero] at rounded
    simpa [zero] using rounded
  · have rounded := roundsTo_round (decide (sum < 0)) sum.natAbs Nat.one_pos
    have exact_sum : (if decide (sum < 0) = true then -(sum.natAbs : Int) else sum.natAbs) = sum := by
      simp only [decide_eq_true_eq]
      split <;> omega
    rwa [exact_sum] at rounded

theorem f64Add_of_zero_sum {x y : F64} (hx : f64IsFinite x = true) (hy : f64IsFinite y = true)
    (h : f64Units x + f64Units y = 0) :
    f64Add x y = if f64Sign x = true ∧ f64Sign y = true then 0x8000000000000000#64 else 0 := by
  simp [f64Add_of_finite hx hy, h]

theorem f64Sub_roundsTo {x y : F64} (hx : f64IsFinite x = true) (hy : f64IsFinite y = true) :
    RoundsTo (f64Sub x y) (f64Units x - f64Units y) 1 := by
  have sum := f64Add_roundsTo hx (f64Neg_isFinite hy)
  rwa [f64Units_neg] at sum

/-! ### Floor -/

/-- A number of at most 53 significant bits is rounded to itself. -/
theorem magnitudeAt_rounded_exact {n j : Nat} (places : 2 ^ j ∣ n) (fits : n < 2 ^ 53 * 2 ^ j) :
    magnitudeAt (roundedPattern n 1) = n := by
  have kept : lastPlace n 1 ≤ j := by
    rw [lastPlace, Nat.div_one]
    rcases Nat.eq_zero_or_pos n with rfl | positive
    · simp
    · have := (Nat.log2_lt positive.ne').mpr (pow_add 2 53 j ▸ fits)
      omega
  have whole : 2 ^ lastPlace n 1 ∣ n := (Nat.pow_dvd_pow 2 kept).trans places
  have rounded : roundedPattern n 1 = flooredPattern n 1 := by
    rw [roundedPattern, flooredPattern, Nat.one_mul, roundHalfEven, Nat.mod_eq_zero_of_dvd whole, if_pos (Nat.two_pow_pos _)]
  rw [rounded, magnitudeAt_floored, Nat.one_mul, Nat.div_mul_cancel whole]

/-- A multiple c of 2^j, c at most 2^53, is a finite number that rounding keeps. -/
theorem f64Round_whole (neg : Bool) {c j : Nat} (hc : c ≤ 2 ^ 53) (hj : j ≤ 2044) :
    f64IsFinite (f64Round neg (c * 2 ^ j) 1) = true ∧
      f64Units (f64Round neg (c * 2 ^ j) 1) = if neg = true then -((c * 2 ^ j : Nat) : Int) else (c * 2 ^ j : Nat) := by
  have finite : roundedPattern (c * 2 ^ j) 1 < 2047 * 2 ^ 52 := by
    rw [roundedPattern_lt_iff Nat.one_pos, Nat.mul_one]
    have product := Nat.mul_le_mul hc (Nat.pow_le_pow_right two_pos hj)
    refine product.trans_lt ?_
    rw [f64Overflow, Nat.mul_lt_mul_right (by positivity)]
    omega
  have same : magnitudeAt (roundedPattern (c * 2 ^ j) 1) = c * 2 ^ j := by
    rcases hc.lt_or_eq with less | rfl
    · exact magnitudeAt_rounded_exact (Nat.dvd_mul_left _ _) (Nat.mul_lt_mul_of_pos_right less (Nat.two_pow_pos j))
    · refine magnitudeAt_rounded_exact (j := 53 + j) (pow_add 2 53 j).dvd ?_
      rw [pow_add, Nat.lt_mul_iff_one_lt_left (Nat.mul_pos (Nat.two_pow_pos _) (Nat.two_pow_pos _))]
      omega
  refine ⟨?_, by rw [f64Units_round neg finite, same]⟩
  rw [f64IsFinite_iff, f64Round_pattern]
  omega

/-- A number with bits below the place j is less than 2^53 at that place. -/
theorem f64Mag_div_lt {x : F64} {j : Nat} (h : f64Mag x % 2 ^ j ≠ 0) : f64Mag x / 2 ^ j < 2 ^ 53 := by
  obtain ⟨k, r, hp, normal, fits⟩ := exists_place (x.toNat % 2 ^ 63)
  rw [f64Mag_eq, hp, magnitudeAt_place normal fits.le] at h ⊢
  have below : k ≤ j := by
    by_contra above
    exact h (Nat.mod_eq_zero_of_dvd ((Nat.pow_dvd_pow 2 (by omega)).mul_left r))
  rw [Nat.div_lt_iff_lt_mul (Nat.two_pow_pos j)]
  exact Nat.mul_lt_mul_of_lt_of_le fits (Nat.pow_le_pow_right two_pos below) (Nat.two_pow_pos j)

/-- The largest whole number not above a negative number that is not whole. -/
theorem neg_ediv_of_mod_ne {n d : Nat} (h : n % d ≠ 0) (hd : 0 < d) : -(n : Int) / d = -((n / d + 1 : Nat) : Int) := by
  have fraction : ¬ (d : Int) ∣ n := fun whole => h (Nat.mod_eq_zero_of_dvd (Int.natCast_dvd_natCast.mp whole))
  rw [Int.neg_ediv, if_neg fraction, Int.sign_eq_one_of_pos (by exact_mod_cast hd)]
  push_cast
  ring

theorem f64Floor_exact {x : F64} (hx : f64IsFinite x = true) :
    f64IsFinite (f64Floor x) = true ∧ f64Units (f64Floor x) = f64Units x / 2 ^ 1074 * 2 ^ 1074 := by
  obtain ⟨j, hj⟩ : ∃ j, j = 1074 := ⟨_, rfl⟩
  have one : ((2 ^ j : Nat) : Int) = 2 ^ j := by push_cast; rfl
  rw [f64Floor, if_pos hx, ← hj, ← one]
  split
  · rename_i whole
    have multiple : ((2 ^ j : Nat) : Int) ∣ f64Mag x := Int.natCast_dvd_natCast.mpr (Nat.dvd_of_mod_eq_zero whole)
    refine ⟨hx, (Int.ediv_mul_cancel ?_).symm⟩
    unfold f64Units
    split
    · exact (Int.dvd_neg).mpr multiple
    · exact multiple
  · rename_i broken
    have fits := f64Mag_div_lt broken
    have units : f64Units x = if f64Sign x = true then -(f64Mag x : Int) else f64Mag x := rfl
    cases hs : f64Sign x with
    | true =>
      obtain ⟨finite, rounded⟩ := f64Round_whole true (j := j) (Nat.succ_le_of_lt fits) (by omega)
      refine ⟨finite, rounded.trans ?_⟩
      rw [units, hs, if_pos rfl, if_pos rfl, neg_ediv_of_mod_ne broken (Nat.two_pow_pos j)]
      push_cast; ring
    | false =>
      obtain ⟨finite, rounded⟩ := f64Round_whole false (j := j) fits.le (by omega)
      refine ⟨finite, rounded.trans ?_⟩
      rw [units, hs, if_neg Bool.false_ne_true, if_neg Bool.false_ne_true]
      push_cast; rfl

/-- Settles O58, operation by operation. -/
theorem arithmeticRoundsExactResult : Obligations.ArithmeticRoundsExactResult := fun _ _ hx hy =>
  ⟨fun _ hd => f64DivNat_roundsTo hx hd, f64MulNat_roundsTo hx, f64Add_roundsTo hx hy, f64Sub_roundsTo hx hy,
    f64Add_of_zero_sum hx hy, f64Floor_exact hx, f64Neg_isFinite hx, f64Units_neg _⟩

end Sys2Proof.Machine
end

section
/-! SUPPORT. What FT_TELEMETRY leaves on a frame buffer of each length (43_telemetry.md R181, R195; 20_memory.md R51), and the image
tokens on one that is too short. -/

namespace Sys2Proof.Machine

/-! ### The record from its reads -/

/-- What the readers give on a buffer that holds every field, with its status bytes as rails' statuses, is the record of R181. -/
theorem recordOf_reads {m : Memory} {f : FieldReads} (h : 136 ≤ m.length) (hf : readFields m = some f) :
    recordOf f (f.statusBytes.map statusOf) = recordAt m := by
  rw [readFields_eq h, Option.some.injEq] at hf
  subst hf
  have pmu : pmuRows.map (fun r => readingAt m r.off r.scale r.fail) = (recordAt m).pmu := by
    simp only [pmuRows, recordAt, List.map_map]
    refine List.map_congr_left fun i _ => ?_
    by_cases hi : i < 4 <;> simp [pmuRow, hi]
  rw [recordOf, pmu]
  simp only [recordAt, iouRows, inertRows, pduStatusOffs, pduValueRows, List.map_map, List.zip_map']
  rfl

/-- Delivering the record of a buffer's reads empties FB and the decoder's registers, whatever these held. -/
theorem deliverTelemetry_reads {m : Memory} {f : FieldReads} {s : State} (h : 136 ≤ m.length) (hf : readFields m = some f)
    (hs : s.pduStatuses = f.statusBytes.map statusOf) (g : Option GpsReads) :
    deliverTelemetry f g s = { s with
      events := s.events ++ [.telemetry (recordAt m) (g.map fun r => fixOf r s.latitude s.longitude)]
      fb := [], pduStatuses := [], latitude := .finite 0, longitude := .finite 0 } := by
  rw [← recordOf_reads h hf, ← hs]
  rfl

/-! ### Lengths -/

/-- Settles O27: the readers' values are the fields of R188, and the two conversions are `coord`. -/
theorem telemetryEmitsExactRecord : Obligations.TelemetryEmitsExactRecord := by
  intro s h
  have fields := readFields_eq (m := s.fb) (by omega)
  rw [exec_ftTelemetry, ftTelemetry_of_reads h fields (readGps_eq h), convertCoordinates_eq, statusBytes_eq,
    deliverTelemetry_reads (by omega) fields rfl]
  rfl

/-- A frame that holds every field but not the GPS block is delivered without a fix (R195). -/
theorem ftTelemetry_without_fix {s : State} {f : FieldReads} (hl : s.fb.length < 160) (hf : readFields s.fb = some f) :
    ftTelemetry s = deliverTelemetry f none (statusBytes f.statusBytes (clearExtractor s)) := by
  rw [ftTelemetry, hf]
  exact if_neg (by simpa [gpsMinLen] using hl)

theorem memByte_of_ge {m : Memory} {o : Nat} (h : m.length ≤ o) : memByte m o = none := List.getElem?_eq_none h

/-- A row of class I whose second byte lies past the end reads as nothing. -/
theorem field_of_ge {m : Memory} {r : Int16Row} (h : m.length ≤ r.off + 1) : field m r = none := by
  have word : u16be m r.off = none := by
    rw [u16be, memByte_of_ge h]
    split <;> simp_all
  rw [field, s16be, word]

/-- Reading a list of rows gives nothing where one of them cannot be read. -/
theorem mapM_none {α β : Type} {f : α → Option β} {a : α} (hf : f a = none) : ∀ l : List α, a ∈ l → l.mapM f = none
  | b :: l, h => by
    rw [List.mapM_cons]
    rcases List.mem_cons.mp h with rfl | h
    · rw [hf]; rfl
    · rw [mapM_none hf l h]
      cases f b <;> rfl

/-- The last field, PMU[11], ends at offset 136. -/
theorem readFields_of_lt {m : Memory} (h : m.length < 136) : readFields m = none := by
  have last : pmuRow 11 ∈ pmuRows := List.mem_map_of_mem (by decide)
  have pmu : pmuRows.mapM (field m) = none := mapM_none (field_of_ge (by simp [pmuRow]; omega)) _ last
  simp [readFields, pmu]

theorem ftTelemetry_short {s : State} (h : s.fb.length < 136) : ftTelemetry s = refuse s := by
  rw [ftTelemetry, readFields_of_lt h]

theorem imageChunk_short {s : State} (seq : Byte) (h : s.fb.length < 281) : imageChunk seq s = refuse s := by
  rw [imageChunk, memRead_of_gt (by simpa [imgLo, imgLen] using h)]

/-- Settles O28: without the GPS block a record has no fix, and a read past the end sets the refused mark. -/
theorem shortFrameBuffers : Obligations.ShortFrameBuffers := by
  intro s
  have refused {t : State} (h : t = refuse s) : (.next t : Host.Outcome State Fault Refusal) = .next { s with refused := true } :=
    congrArg Host.Outcome.next h
  refine ⟨fun hl hg => ?_, fun h => refused (ftTelemetry_short h), fun h =>
    ⟨refused (imageChunk_short _ h), refused (imageChunk_short _ h), fun _ => refused (imageChunk_short _ h)⟩⟩
  have fields := readFields_eq hl
  rw [exec_ftTelemetry, ftTelemetry_without_fix hg fields, statusBytes_eq, deliverTelemetry_reads hl fields rfl]
  rfl

end Sys2Proof.Machine
end

section
/-! SUPPORT. The field descriptor table (43_telemetry.md R188, 30_encoding.md R91): where each field stands in it, and that the
readers read there. -/

namespace Sys2Proof.Machine

/-! ### Readings -/

/-- Settles O30, by the test `readingOf` makes. -/
theorem failMarkerExactly : Obligations.FailMarkerExactly := by
  intro scale fail v
  unfold readingOf
  by_cases sentinel : fail = true ∧ (v = failLo ∨ v = failHi)
  · rw [if_pos sentinel]
    exact ⟨iff_of_true rfl sentinel, fun h => absurd rfl h⟩
  · rw [if_neg sentinel]
    exact ⟨iff_of_false nofun sentinel, fun _ => rfl⟩

/-! ### The table -/

theorem lut_ids_nodup : (lut.map FieldRow.id).Nodup := by decide +kernel

theorem lut_bounds : ∀ r ∈ lut, 3 ≤ r.off ∧ r.off + r.width ≤ 159 := by decide +kernel

theorem lut_disjoint : lut.Pairwise fun r q => r.off + r.width ≤ q.off ∨ q.off + q.width ≤ r.off := by decide +kernel

/-- A row is found under its name. -/
theorem find_row {l : List FieldRow} (h : (l.map FieldRow.id).Nodup) {r : FieldRow} (hr : r ∈ l) :
    l.find? (fun q => q.id = r.id) = some r := by
  induction l with
  | nil => nomatch hr
  | cons q l ih =>
    rw [List.map_cons, List.nodup_cons] at h
    obtain ⟨fresh, rest⟩ := h
    rcases List.mem_cons.mp hr with rfl | hr
    · exact List.find?_cons_of_pos (decide_eq_true rfl)
    · have other : q.id ≠ r.id := fun e => fresh (e ▸ List.mem_map_of_mem hr)
      rw [List.find?_cons_of_neg (by simpa using other), ih rest hr]

/-- The offset of a field's name is the one in its row. -/
theorem offsetOf_of_mem {r : FieldRow} (h : r ∈ lut) : offsetOf r.id = r.off := by
  rw [offsetOf, find_row lut_ids_nodup h]
  rfl

theorem int16Row_mem_lut {r : Int16Row} (h : r ∈ iouRows ++ inertRows ++ pduValueRows ++ pmuRows) : r.toRow ∈ lut := by
  have row {rows : List Int16Row} (h : r ∈ rows) : r.toRow ∈ rows.map Int16Row.toRow := List.mem_map_of_mem h
  simp only [List.mem_append] at h
  simp only [lut, List.mem_append]
  rcases h with ((h | h) | h) | h <;> simp [row h]

/-- A row of class I reads at the table's offset. -/
theorem readings_at_offsets (m : Memory) {n : Nat} {row : Nat → Int16Row}
    (h : (List.range n).map row ⊆ iouRows ++ inertRows ++ pduValueRows ++ pmuRows) :
    ((List.range n).map row).map (fun r => readingAt m r.off r.scale r.fail) =
      (List.range n).map fun i => readingAt m (offsetOf (row i).id) (row i).scale (row i).fail := by
  rw [List.map_map]
  refine List.map_congr_left fun i hi => ?_
  have offset : offsetOf (row i).id = (row i).off := offsetOf_of_mem (int16Row_mem_lut (h (List.mem_map_of_mem hi)))
  rw [offset]
  rfl

theorem statuses_at_offsets (m : Memory) :
    pduStatusOffs.map (byteAt m) = (List.range 18).map fun k => byteAt m (offsetOf (.pduStatus k)) := by
  rw [pduStatusOffs, List.map_map]
  refine List.map_congr_left fun k hk => ?_
  have row : (⟨.pduStatus k, pduStatusOff k, .status⟩ : FieldRow) ∈ lut := by
    simp only [lut, List.mem_append, List.mem_map]
    simp [List.mem_range.mp hk]
  exact congrArg (byteAt m) (offsetOf_of_mem row).symm

/-- Settles O31: the table's facts are of fixed data, and each reader's offset is the one in its field's row. -/
theorem telemetryFieldsDisjoint : Obligations.TelemetryFieldsDisjoint := by
  refine ⟨rfl, lut_ids_nodup, lut_bounds, lut_disjoint, fun m h =>
    ⟨_, _, readFields_eq (by omega), readGps_eq h, rfl, ?_, rfl, rfl, ?_, statuses_at_offsets m, ?_, ?_, rfl⟩⟩
  · exact readings_at_offsets m fun r hr => by simp [iouRows, hr]
  · exact readings_at_offsets m fun r hr => by simp [inertRows, hr]
  · exact readings_at_offsets m fun r hr => by simp [pduValueRows, hr]
  · exact readings_at_offsets m fun r hr => by simp [pmuRows, hr]

end Sys2Proof.Machine
end

section
/-! SUPPORT. The worked latitude (43_telemetry.md R198), by evaluation of each operation. -/

namespace Sys2Proof.Machine

/-- `coord` from its degrees and minutes, where the input is a number (R197). -/
theorem coordOf_eq {v deg m x : F64} (hv : f64Exp v ≠ 2047) (hdeg : coordDegrees v = deg) (hm : coordMinutes v = m)
    (hx : f64Add deg (f64DivNat m 60) = x) (h neg : Byte) :
    coordOf v h neg = .finite (if h = neg then f64Neg x else x) := by
  subst hdeg hm hx
  exact if_neg hv

/-- Settles O32: degrees and minutes first, and the coordinate from these. -/
theorem latitudeWorkedExample : Obligations.LatitudeWorkedExample := by
  have degrees : coordDegrees 0x4090047E6B3FE9FB#64 = 0x4024000000000000#64 := by decide +kernel
  have minutes : coordMinutes 0x4090047E6B3FE9FB#64 = 0x40391F9ACFFA7EC0#64 := by decide +kernel
  have sum : f64Add 0x4024000000000000#64 (f64DivNat 0x40391F9ACFFA7EC0#64 60) = 0x4024D66306EEBFF5#64 := by decide +kernel
  have coord := coordOf_eq (by decide) degrees minutes sum
  exact ⟨degrees, minutes, coord 0x4E 0x53, coord 0x53 0x53⟩

end Sys2Proof.Machine
end

section
/-! SUPPORT. `nthOrder` numbers the orders of a list (43_telemetry.md D32): every number gives one, and the numbers below the
factorial of the length give all of them. -/

namespace Sys2Proof.Machine

theorem nthOrder_succ (n : Nat) {q : List PmuQuantity} {k : Nat} (hq : q.length = k + 1) :
    ∃ h : n % q.length < q.length,
      nthOrder (k + 1) n q = q[n % q.length] :: nthOrder k (n / q.length) (q.eraseIdx (n % q.length)) := by
  have h : n % q.length < q.length := Nat.mod_lt _ (by omega)
  refine ⟨h, ?_⟩
  rw [nthOrder, List.getElem?_eq_getElem h]

theorem nthOrder_perm : ∀ (k n : Nat) (q : List PmuQuantity), q.length = k → (nthOrder k n q).Perm q
  | 0, _, q, hq => by rw [List.length_eq_zero_iff.mp hq]; exact .refl _
  | k + 1, n, q, hq => by
    obtain ⟨h, e⟩ := nthOrder_succ n hq
    have rest := nthOrder_perm k (n / q.length) (q.eraseIdx (n % q.length)) (by rw [List.length_eraseIdx_of_lt h]; omega)
    rw [e]
    exact (rest.cons _).trans (List.getElem_cons_eraseIdx_perm h)

/-- The first element's place is the number's last digit, and the order of the others gives the rest of the number. -/
theorem exists_nthOrder : ∀ (k : Nat) (l q : List PmuQuantity), q.length = k → l.Perm q →
    ∃ n, n < k.factorial ∧ nthOrder k n q = l
  | 0, l, q, hq, hl => by
    refine ⟨0, Nat.one_pos, ?_⟩
    rw [List.length_eq_zero_iff.mp hq] at hl
    exact hl.eq_nil.symm
  | k + 1, [], q, hq, hl => by
    have := hl.length_eq
    simp [hq] at this
  | k + 1, a :: l, q, hq, hl => by
    obtain ⟨i, hi, rfl⟩ := List.getElem_of_mem (hl.subset List.mem_cons_self)
    have others : l.Perm (q.eraseIdx i) := (hl.trans (List.getElem_cons_eraseIdx_perm hi).symm).cons_inv
    obtain ⟨n, hn, rfl⟩ := exists_nthOrder k l (q.eraseIdx i) (by rw [List.length_eraseIdx_of_lt hi]; omega) others
    have place : (i + q.length * n) % q.length = i := by rw [Nat.add_mul_mod_self_left, Nat.mod_eq_of_lt hi]
    have number : (i + q.length * n) / q.length = n := by
      rw [Nat.add_mul_div_left _ _ (by omega), Nat.div_eq_of_lt hi, Nat.zero_add]
    refine ⟨i + q.length * n, ?_, ?_⟩
    · rw [Nat.factorial_succ, ← hq]
      calc i + q.length * n < q.length + q.length * n := by omega
        _ = q.length * (n + 1) := by ring
        _ ≤ q.length * k.factorial := Nat.mul_le_mul_left _ hn
    · obtain ⟨h, e⟩ := nthOrder_succ (i + q.length * n) hq
      rw [e]
      simp only [place, number]

/-- Settles O34: four quantities have 24 orders. -/
theorem pmuOrderReachesEveryOrder : Obligations.PmuOrderReachesEveryOrder := by
  refine ⟨fun l => ⟨exists_nthOrder 4 l _ rfl, ?_⟩, Config.pmuOrderIndex % 24, Nat.mod_lt _ (by decide), rfl⟩
  rintro ⟨n, _, rfl⟩
  exact nthOrder_perm 4 n _ rfl

end Sys2Proof.Machine
end

section
/-! SUPPORT. What each chunk token leaves on a frame that holds the slice (44_image.md R231 to R236), and the sizes of the images
that a step delivers (R240). -/

namespace Sys2Proof.Machine

/-! ### Opening and closing -/

theorem openIfNeeded_first (s : State) : openIfNeeded 0x00 s = openAssembly s := if_pos (.inr rfl)

/-- A chunk that is not the first is appended to the open assembly, or to a new one where none is open (R234). -/
theorem openIfNeeded_of_ne_first {seq : Byte} (hq : seq ≠ imgFirst) (s : State) :
    openIfNeeded seq s = { s with
      imgOpen := true
      imgCount := if s.imgOpen = true then s.imgCount else 0
      imgBuf := if s.imgOpen = true then s.imgBuf else [] } := by
  unfold openIfNeeded
  cases ho : s.imgOpen with
  | false => exact if_pos (.inl rfl)
  | true =>
    have goes_on : ¬ (true = false ∨ seq = imgFirst) := not_or.mpr ⟨Bool.noConfusion, hq⟩
    rw [if_neg goes_on, if_pos rfl, if_pos rfl, ← ho]

theorem deliverIfComplete_of_complete {seq : Byte} {s : State} (h : seq = imgLast ∨ s.imgCount = imgMaxChunks) :
    deliverIfComplete seq s = deliverImage s := if_pos h

theorem deliverIfComplete_of_incomplete {seq : Byte} {s : State} (hq : seq ≠ imgLast) (hn : s.imgCount ≠ imgMaxChunks) :
    deliverIfComplete seq s = s := if_neg (not_or.mpr ⟨hq, hn⟩)

/-! ### The chunk tokens -/

/-- Settles O35: the new assembly counts one chunk after the append, which is neither 27 nor the last index. -/
theorem firstChunkRestartsAssembly : Obligations.FirstChunkRestartsAssembly := by
  intro s hl
  have not_last : (0x00 : Byte) ≠ imgLast := by decide
  have not_full : (1 : Nat) ≠ imgMaxChunks := by decide
  rw [exec_ftImgFirst, ftImgFirst, imageChunk_full 0x00 hl, openIfNeeded_first,
    deliverIfComplete_of_incomplete not_last not_full]
  rfl

/-- Settles O36: index 0x1A completes the image whatever the count. -/
theorem lastChunkDelivers : Obligations.LastChunkDelivers := by
  intro s hl
  have not_first : (0x1A : Byte) ≠ imgFirst := by decide
  rw [exec_ftImgLast, ftImgLast, imageChunk_full 0x1A hl, openIfNeeded_of_ne_first not_first,
    deliverIfComplete_of_complete (.inl rfl)]
  rfl

/-- Settles O37: for an index that is neither the first nor the last, the count after the append alone decides (R236). -/
theorem middleChunkDeliversAt27 : Obligations.MiddleChunkDeliversAt27 := by
  intro s t hl not_first not_last _
  dsimp only
  rw [exec_ftImgMid, ftImgMid, imageChunk_full t hl, openIfNeeded_of_ne_first not_first]
  constructor
  · intro more
    rw [deliverIfComplete_of_incomplete not_last more]
    rfl
  · intro full
    rw [deliverIfComplete_of_complete (.inr full)]
    rfl

/-! ### The sizes of delivered images -/

/-- Every image among the events of `t` is among those of `s`, or holds 1 to 27 slices of 278 bytes. -/
def NewImagesSized (s t : State) : Prop :=
  ∀ buf, .image buf ∈ t.events → .image buf ∈ s.events ∨ ∃ k, 1 ≤ k ∧ k ≤ 27 ∧ buf.length = 278 * k

theorem newImagesSized_of_events_eq {s t : State} (h : t.events = s.events) : NewImagesSized s t := by
  intro buf hbuf
  rw [h] at hbuf
  exact .inl hbuf

/-- Of the events a step appends, only the images count. -/
theorem newImagesSized_of_append {s t : State} {es : List Event} (h : t.events = s.events ++ es)
    (sized : ∀ buf, .image buf ∈ es → ∃ k, 1 ≤ k ∧ k ≤ 27 ∧ buf.length = 278 * k) : NewImagesSized s t := by
  intro buf hbuf
  rw [h] at hbuf
  exact (List.mem_append.mp hbuf).imp_right (sized buf)

/-- A delivered image is at most 26 chunks of the assembly and the slice of its last frame. -/
theorem completed_newImagesSized {s t : State} (h : Completed s t) (hs : AssemblyInv s) : NewImagesSized s t := by
  cases h with
  | failed o _ => exact newImagesSized_of_append (es := [.outcome o]) rfl (by simp)
  | telemetry rec gps =>
    exact newImagesSized_of_append (es := [.outcome .ok, .telemetry rec gps]) (by simp [reportOutcome]) (by simp)
  | chunk => exact newImagesSized_of_append (es := [.outcome .ok]) rfl (by simp)
  | image buf slice n hslice hb =>
    obtain ⟨hle, hlen⟩ := hs.appendedTo hb
    have size : (buf ++ slice).length = 278 * (n + 1) := by rw [List.length_append, hlen, hslice, Nat.mul_succ]
    refine newImagesSized_of_append (es := [.outcome .ok, .image (buf ++ slice)]) (by simp [reportOutcome]) ?_
    intro image himage
    obtain rfl : image = buf ++ slice := by simpa using himage
    exact ⟨n + 1, Nat.succ_pos n, Nat.succ_le_succ hle, size⟩

theorem tokenEffect_newImagesSized {s t : State} (h : TokenEffect s t) (hs : AssemblyInv s) : NewImagesSized s t := by
  cases h with
  | frameRf _ _ _ _ hc => exact (completed_newImagesSized hc (hs.congr rfl rfl rfl) :)
  | frameRs _ _ _ _ hc => exact (completed_newImagesSized hc (hs.congr rfl rfl rfl) :)
  | raw b _ => exact newImagesSized_of_append (es := [.raw b]) rfl (by simp)
  | transportError => exact newImagesSized_of_append (es := [.transportError]) rfl (by simp)
  | _ => exact newImagesSized_of_events_eq rfl

/-- Settles O38: a step that runs no token delivers nothing, and a token delivers from an assembly that meets R37. -/
theorem deliveredImageSizes : Obligations.DeliveredImageSizes := by
  intro s t hu hinv h
  obtain ⟨_, hs⟩ := (framerImageInv_iff s).mp hinv
  rcases step_cases hu h with rfl | ⟨x, rest, _, rfl | ⟨i, _, _, _, he⟩⟩
  · exact newImagesSized_of_events_eq rfl
  · exact newImagesSized_of_events_eq rfl
  · exact (tokenEffect_newImagesSized he (hs.congr rfl rfl rfl) :)

end Sys2Proof.Machine
end

section
/-! SUPPORT. The counters and the events they count (R250 to R253): every input but CMD_RESET_COUNTERS leaves each counter grown
by the number of its events. -/

namespace Sys2Proof.Machine

/-! ### Tallies -/

@[simp] theorem tally_nil (p : Event → Bool) : tally p [] = 0 := rfl

theorem tally_append (p : Event → Bool) (es es' : List Event) : tally p (es ++ es') = tally p es + tally p es' := by
  simp [tally, BitVec.ofNat_add]

theorem tally_cons (p : Event → Bool) (e : Event) (es : List Event) : tally p (e :: es) = tally p [e] + tally p es :=
  tally_append p [e] es

/-- Each single event is an OUTCOME exactly as often as it is one of the three. -/
theorem tally_outcome_single (e : Event) :
    tally isOutcome [e] = tally (· == .outcome .ok) [e] + tally (· == .outcome .lengthInvalid) [e]
      + tally (· == .outcome .checksumInvalid) [e] := by
  cases e with
  | outcome o => cases o <;> rfl
  | _ => rfl

/-- The outcomes of any list of events are its Ok, LengthInvalid and ChecksumInvalid ones together (R253). -/
theorem tally_outcomes (es : List Event) :
    tally isOutcome es = tally (· == .outcome .ok) es + tally (· == .outcome .lengthInvalid) es
      + tally (· == .outcome .checksumInvalid) es := by
  induction es with
  | nil => rfl
  | cons e es ih => simp only [tally_cons _ e es, ih, tally_outcome_single e]; ac_rfl

/-! ### Counting -/

/-- `t` appends `es` to the events of `s`, and has each counter of `s` grown by the number of its events in `es`. -/
structure CountsAs (es : List Event) (s t : State) : Prop where
  events : t.events = s.events ++ es
  frames : t.cntFrames = s.cntFrames + tally isOutcome es
  images : t.cntImages = s.cntImages + tally isImage es
  lenFail : t.cntLenFail = s.cntLenFail + tally (· == .outcome .lengthInvalid) es
  crcFail : t.cntCrcFail = s.cntCrcFail + tally (· == .outcome .checksumInvalid) es

/-- From `s` to `t` the events only grow, and the counters count what is new. -/
def CountsNewEvents (s t : State) : Prop := ∃ es, CountsAs es s t

/-- Counters and events left as they are: nothing is new. -/
theorem countsNewEvents_of_unchanged {s t : State} (events : t.events = s.events) (frames : t.cntFrames = s.cntFrames)
    (images : t.cntImages = s.cntImages) (lenFail : t.cntLenFail = s.cntLenFail) (crcFail : t.cntCrcFail = s.cntCrcFail) :
    CountsNewEvents s t :=
  ⟨[], by simp [events], by simp [frames], by simp [images], by simp [lenFail], by simp [crcFail]⟩

theorem CountsNewEvents.refl (s : State) : CountsNewEvents s s := countsNewEvents_of_unchanged rfl rfl rfl rfl rfl

theorem CountsNewEvents.trans {s u t : State} (hu : CountsNewEvents s u) (ht : CountsNewEvents u t) : CountsNewEvents s t := by
  obtain ⟨es, first⟩ := hu
  obtain ⟨es', last⟩ := ht
  exact ⟨es ++ es', by rw [last.events, first.events, List.append_assoc],
    by rw [last.frames, first.frames, tally_append, BitVec.add_assoc],
    by rw [last.images, first.images, tally_append, BitVec.add_assoc],
    by rw [last.lenFail, first.lenFail, tally_append, BitVec.add_assoc],
    by rw [last.crcFail, first.crcFail, tally_append, BitVec.add_assoc]⟩

/-! ### The operations that emit -/

theorem reportOutcome_countsNewEvents (o : FrameOutcome) (s : State) : CountsNewEvents s (reportOutcome o s) := by
  refine ⟨[.outcome o], rfl, rfl, (BitVec.add_zero _).symm, ?_, ?_⟩ <;> cases o <;> simp [reportOutcome, tally]

/-- An event that is neither an OUTCOME nor an IMAGE is counted nowhere. -/
theorem emit_countsNewEvents {e : Event} (outcome : isOutcome e = false) (image : isImage e = false) (s : State) :
    CountsNewEvents s (emit e s) := by
  have other (o : FrameOutcome) : (e == .outcome o) = false := by
    rw [beq_eq_false_iff_ne]
    rintro rfl
    cases outcome
  exact ⟨[e], rfl, by simp [tally, outcome], by simp [tally, image], by simp [tally, other], by simp [tally, other]⟩

/-- `deliver_image` (R237) counts the IMAGE it emits. -/
theorem countImage_emit_countsNewEvents (buf : List Byte) (s : State) : CountsNewEvents s (countImage (emit (.image buf) s)) :=
  ⟨[.image buf], rfl, (BitVec.add_zero _).symm, rfl, (BitVec.add_zero _).symm, (BitVec.add_zero _).symm⟩

/-! ### Every token of an input but the counter reset -/

theorem completed_countsNewEvents {s t : State} (h : Completed s t) : CountsNewEvents s t := by
  cases h with
  | failed o _ => exact reportOutcome_countsNewEvents o s
  | telemetry rec gps =>
    exact ((reportOutcome_countsNewEvents .ok s).trans (emit_countsNewEvents rfl rfl _)).trans
      (countsNewEvents_of_unchanged rfl rfl rfl rfl rfl)
  | chunk => exact (reportOutcome_countsNewEvents .ok s).trans (countsNewEvents_of_unchanged rfl rfl rfl rfl rfl)
  | image buf slice =>
    exact ((reportOutcome_countsNewEvents .ok s).trans (countImage_emit_countsNewEvents (buf ++ slice) _)).trans
      (countsNewEvents_of_unchanged rfl rfl rfl rfl rfl)

theorem rfEnd_countsNewEvents (s : State) : CountsNewEvents s (rfEnd s) := by
  cases hi : s.inside with
  | false => rw [rfEnd_outside hi]; exact .refl s
  | true =>
    have cleared : CountsNewEvents s (clearDestuffer (clearFramer s)) := countsNewEvents_of_unchanged rfl rfl rfl rfl rfl
    rw [rfEnd_inside hi]
    exact cleared.trans (completed_countsNewEvents (completeRf_completed _ _ _))

theorem rfData_countsNewEvents (b : Byte) (s : State) : CountsNewEvents s (rfData b s) := by
  cases hi : s.inside with
  | false => rw [rfData_outside b hi]; exact .refl s
  | true =>
    rw [rfData_inside b hi]
    split <;> exact countsNewEvents_of_unchanged rfl rfl rfl rfl rfl

theorem rsData_countsNewEvents (b : Byte) (s : State) : CountsNewEvents s (rsData b s) := by
  by_cases hl : s.acc.length = 281
  · have cleared : CountsNewEvents s (clearFramer s) := countsNewEvents_of_unchanged rfl rfl rfl rfl rfl
    rw [rsData_completes b hl]
    exact cleared.trans (completed_countsNewEvents (completeRs_completed _ _ (by simp [hl])))
  · rw [rsData_accumulates b hl]
    exact countsNewEvents_of_unchanged rfl rfl rfl rfl rfl

theorem decodeRf_countsNewEvents {b : Byte} {s t : State} (h : exec (decodeRf b) s = .next t) : CountsNewEvents s t := by
  unfold decodeRf at h
  split_ifs at h <;> cases h
  · exact countsNewEvents_of_unchanged rfl rfl rfl rfl rfl
  · exact rfEnd_countsNewEvents s
  · exact rfData_countsNewEvents b s

/-- Only the word 0x30 resets the counters; no other command touches them or emits. -/
theorem decodeCommand_countsNewEvents {w : Byte} (hw : w ≠ 0x30) {s t : State} (h : exec (decodeCommand w) s = .next t) :
    CountsNewEvents s t := by
  by_cases legal : w ∈ legalCommandWords
  · have silent : w = 0x10 ∨ w = 0x11 ∨ w = 0x20 ∨ w = 0x21 ∨ w = 0x40 := by
      simpa only [legalCommandWords, List.mem_cons, List.not_mem_nil, or_false, hw, false_or] using legal
    rcases silent with rfl | rfl | rfl | rfl | rfl <;> cases h <;> exact countsNewEvents_of_unchanged rfl rfl rfl rfl rfl
  · rw [decodeCommand_of_not_legal w legal] at h
    cases h
    exact countsNewEvents_of_unchanged rfl rfl rfl rfl rfl

theorem inputToken_countsNewEvents {s u t : State} {x : Input} {i : Instr} (token : InputToken s x i) (hx : x ≠ .cmd 0x30)
    (h : exec i u = .next t) : CountsNewEvents u t := by
  cases token with
  | raw b _ => cases h; exact emit_countsNewEvents rfl rfl u
  | rf b _ _ => exact decodeRf_countsNewEvents h
  | rs b _ _ => cases h; exact rsData_countsNewEvents b u
  | cmd w => exact decodeCommand_countsNewEvents (fun hw => hx (congrArg Input.cmd hw)) h
  | terr =>
    cases h
    exact (emit_countsNewEvents rfl rfl u).trans (countsNewEvents_of_unchanged rfl rfl rfl rfl rfl)

/-! ### Steps and runs -/

theorem step_countsNewEvents {s t : State} (hu : s.unitToken = none) (hr : .cmd 0x30 ∉ s.inputs) (h : step s = .next t) :
    CountsNewEvents s t := by
  rcases step_cases hu h with rfl | ⟨x, rest, hi, dropped | ⟨i, _, token, hexec, _⟩⟩
  · exact .refl t
  · rw [dropped]
    exact countsNewEvents_of_unchanged rfl rfl rfl rfl rfl
  · have hx : x ≠ .cmd 0x30 := by
      rintro rfl
      exact hr (hi ▸ List.mem_cons_self)
    have taken : CountsNewEvents s (setInputs rest s) := countsNewEvents_of_unchanged rfl rfl rfl rfl rfl
    exact taken.trans (inputToken_countsNewEvents token hx hexec)

/-- What is kept along a run from `s`: with the latch empty and no counter reset pending, a step counts and leaves both so. -/
structure CountingSince (s u : State) : Prop where
  latchEmpty : u.unitToken = none
  noReset : .cmd 0x30 ∉ u.inputs
  counted : CountsNewEvents s u

theorem step_countingSince {s u t : State} (hs : CountingSince s u) (h : step u = .next t) : CountingSince s t where
  latchEmpty := step_unitToken hs.latchEmpty h
  noReset hm := hs.noReset (List.mem_of_mem_tail (step_inputs hs.latchEmpty h ▸ hm))
  counted := hs.counted.trans (step_countsNewEvents hs.latchEmpty hs.noReset h)

/-- Settles O46: every step keeps `CountingSince s`, and the three outcomes make up the outcomes of any list of events. -/
theorem countersCountEvents : Obligations.CountersCountEvents := by
  intro n s t hu hr h _
  have start : CountingSince s s := ⟨hu, hr, .refl s⟩
  obtain ⟨es, counts⟩ := (run_invariant (fun _ _ => step_countingSince) n start h).counted
  exact ⟨es, counts.events, counts.frames, counts.images, counts.lenFail, counts.crcFail, tally_outcomes es⟩

end Sys2Proof.Machine
end

section
/-! SUPPORT. The host's commands, and the step of a block that runs no token (46_control.md R270 to R277). -/

namespace Sys2Proof.Machine

/-! ### Commands and the transport error -/

/-- Settles O40: both writes clear the framer. -/
theorem modeAndBypassWrites : Obligations.ModeAndBypassWrites := fun s m p => ⟨exec_cmdSetMode s m, exec_cmdSetBypass s p⟩

/-- Settles O41. -/
theorem counterResetZeroesAll : Obligations.CounterResetZeroesAll := exec_cmdResetCounters

/-- Settles O42: the stop sets the run state alone, the transport error emits first. -/
theorem stopAndTransportError : Obligations.StopAndTransportError := fun s => ⟨exec_cmdStop s, exec_srcTransportError s⟩

/-! ### A step that runs a token, and one that runs none -/

/-- Settles O8. -/
theorem stepRunsDecodedInput : Obligations.StepRunsDecodedInput := fun _ _ _ _ _ => step_decoded_input

theorem acceptsInput_of_halted {s : State} (h : s.run = .stopped ∨ s.run = .faulted) : acceptsInput s = false := by
  rcases h with h | h <;> simp [acceptsInput, h]

theorem acceptsInput_of_refused {s : State} (h : s.refused = true) : acceptsInput s = false := by
  simp [acceptsInput, h]

/-- With neither a filled latch nor an input there is nothing to do (R21). -/
theorem step_waits {s : State} (hu : s.unitToken = none) (hi : s.inputs = []) : step s = .next s := by
  rcases step_input s hu with ⟨_, waits⟩ | ⟨x, rest, some_input, _⟩ | ⟨x, rest, i, some_input, _⟩
  · exact waits
  all_goals cases hi.symm.trans some_input

/-- A block that takes no inputs drops them (R270, R277). -/
theorem step_drops_input {s : State} {x : Input} {rest : List Input} (hu : s.unitToken = none) (ha : acceptsInput s = false)
    (hi : s.inputs = x :: rest) : step s = .next (setInputs rest s) := by
  rw [step, fetch_input hu hi, takeInput, acceptsInput_setInputs, if_neg (ne_true_of_eq_false ha)]

/-- A block that takes no inputs drops what its latch holds. -/
theorem step_drops_latch {s : State} {c : TokenContext} {bs : List Byte} (hu : s.unitToken = some (c, bs))
    (ha : acceptsInput s = false) : step s = .next (setUnitToken none s) := by
  rw [step, fetch_latch hu, takeUnitToken, if_neg (ne_true_of_eq_false ha)]

/-- Settles O9: a halted block takes no inputs. -/
theorem haltedBlockIgnoresInputs : Obligations.HaltedBlockIgnoresInputs := fun _ hu halted =>
  ⟨fun _ _ hi => step_drops_input hu (acceptsInput_of_halted halted) hi, fun hi => step_waits hu hi⟩

/-- Settles O10: a refused block takes no inputs. -/
theorem refusedOrEmptyBlockWaits : Obligations.RefusedOrEmptyBlockWaits := fun _ hu =>
  ⟨fun _ _ refused hi => step_drops_input hu (acceptsInput_of_refused refused) hi, fun hi => step_waits hu hi⟩

/-! ### The refused mark -/

/-- A refused block runs no token, so nothing but the model's own latch and list of inputs changes. -/
theorem step_refused {s t : State} (hr : s.refused = true) (h : step s = .next t) : t.refused = true := by
  have ha : acceptsInput s = false := acceptsInput_of_refused hr
  match hu : s.unitToken, hi : s.inputs with
  | some _, _ => rw [step_drops_latch hu ha] at h; cases h; exact hr
  | none, [] => rw [step_waits hu hi] at h; cases h; exact hr
  | none, x :: rest => rw [step_drops_input hu ha hi] at h; cases h; exact hr

/-- Settles O43. -/
theorem illegalWordMarksRefused : Obligations.IllegalWordMarksRefused := ⟨exec_cmdIllegal, fun _ _ => step_refused⟩

/-- A word outside the six of R82 marks the listening block that takes it (R84, R276). -/
theorem step_illegal_word {s : State} {w : Byte} {rest : List Input} (hl : Listening s) (hi : s.inputs = .cmd w :: rest)
    (hw : w ∉ legalCommandWords) : step s = .next (refuse (setInputs rest s)) := by
  have illegal : step s = exec (decodeCommand w) (setInputs rest s) := step_decoded_input hl hi rfl
  rw [illegal, decodeCommand_of_not_legal w hw]
  rfl

end Sys2Proof.Machine
end

section
/-! SUPPORT. What a stream byte leaves alone (46_control.md R279). -/

namespace Sys2Proof.Machine

/-- `t` has the mode, the bypass, the run state and the refused mark of `s`. -/
def SameControl (s t : State) : Prop :=
  t.mode = s.mode ∧ t.bypass = s.bypass ∧ t.run = s.run ∧ t.refused = s.refused

/-- No frame sets the refused mark: a completed one that is classified has all its bytes. -/
theorem completed_sameControl {s t : State} (h : Completed s t) : SameControl s t := by
  cases h <;> simp [SameControl, reportOutcome]

theorem rfEnd_sameControl (s : State) : SameControl s (rfEnd s) := by
  cases hi : s.inside with
  | false => rw [rfEnd_outside hi]; exact ⟨rfl, rfl, rfl, rfl⟩
  | true => rw [rfEnd_inside hi]; exact (completed_sameControl (completeRf_completed _ _ _) :)

theorem rfData_sameControl (b : Byte) (s : State) : SameControl s (rfData b s) := by
  cases hi : s.inside with
  | false => rw [rfData_outside b hi]; exact ⟨rfl, rfl, rfl, rfl⟩
  | true => rw [rfData_inside b hi]; split <;> exact ⟨rfl, rfl, rfl, rfl⟩

theorem rsData_sameControl (b : Byte) (s : State) : SameControl s (rsData b s) := by
  by_cases hl : s.acc.length = 281
  · rw [rsData_completes b hl]
    have full : (appendAcc b s).acc.length = 282 := by simp [hl]
    exact (completed_sameControl (completeRs_completed _ (clearFramer s) full) :)
  · rw [rsData_accumulates b hl]
    exact ⟨rfl, rfl, rfl, rfl⟩

theorem decodeRf_sameControl {b : Byte} {s t : State} (h : exec (decodeRf b) s = .next t) : SameControl s t := by
  unfold decodeRf at h
  split_ifs at h <;> cases h
  · exact ⟨rfl, rfl, rfl, rfl⟩
  · exact rfEnd_sameControl s
  · exact rfData_sameControl b s

/-- The token of a stream byte, in each of the three tables, is no command. -/
theorem byteToken_sameControl {s u t : State} {b : Byte} {i : Instr} (token : InputToken s (.byte b) i)
    (h : exec i u = .next t) : SameControl u t := by
  cases token with
  | raw => cases h; exact ⟨rfl, rfl, rfl, rfl⟩
  | rf => exact decodeRf_sameControl h
  | rs => cases h; exact rsData_sameControl b u

/-- Settles O48: the byte is dropped, or runs its token. -/
theorem noInBandControl : Obligations.NoInBandControl := by
  intro s t b rest hu hi h
  rcases step_cases hu h with rfl | ⟨x, rest', hx, rfl | ⟨i, _, token, hexec, _⟩⟩
  · exact ⟨rfl, rfl, rfl, rfl⟩
  · exact ⟨rfl, rfl, rfl, rfl⟩
  · obtain ⟨rfl, rfl⟩ := List.cons.inj (hi.symm.trans hx)
    exact (byteToken_sameControl token hexec :)

end Sys2Proof.Machine
end

section
/-! SUPPORT. The run of an input sequence from reset: where it ends and what it shows (46_control.md R276, R281). -/

namespace Sys2Proof.Machine

/-! ### The end of a run -/

theorem run_unitToken {n : Nat} {s t : State} (hu : s.unitToken = none) (h : run n s = .next t) : t.unitToken = none :=
  run_invariant (P := fun u => u.unitToken = none) (fun _ _ => step_unitToken) n hu h

theorem run_waits {s : State} (hu : s.unitToken = none) (hi : s.inputs = []) : ∀ k, run k s = .next s
  | 0 => rfl
  | k + 1 => (run_succ (step_waits hu hi)).trans (run_waits hu hi k)

/-- A run takes the inputs in order, one a step. -/
theorem run_takes_inputs (xs : List Input) {k : Nat} (hk : k ≤ xs.length) :
    ∃ u, run k (present xs State.reset) = .next u ∧ u.inputs = xs.drop k := by
  have reset_idle : State.reset.unitToken = none := rfl
  obtain ⟨u, effect⟩ := run_setInputs_effect (xs.take k) reset_idle
  have taken := effect (xs.drop k)
  rw [List.length_take_of_le hk, List.take_append_drop] at taken
  exact ⟨setInputs (xs.drop k) u, taken, rfl⟩

/-- A run from reset goes through, and has ended in a state that stays. -/
theorem runFromReset_ends (xs : List Input) :
    ∃ t, runFromReset xs = .next t ∧ t.inputs = [] ∧ ∀ k, run (xs.length + k) (present xs State.reset) = .next t := by
  obtain ⟨t, reached, taken⟩ := run_takes_inputs xs le_rfl
  rw [List.drop_length] at taken
  exact ⟨t, reached, taken, fun k => (run_add reached).trans (run_waits (run_unitToken rfl reached) taken k)⟩

theorem observation_of_no_input {s : State} (hi : s.inputs = []) :
    observation s = if s.refused = true then none else some (s.events, statusView s) := by
  by_cases hr : s.refused = true
  · rw [observation_refused hr, if_pos hr]
  · rw [observation_ended (eq_false_of_ne_true hr) hi, if_neg hr]

/-- Settles O60. -/
theorem runEndsWhenInputsTaken : Obligations.RunEndsWhenInputsTaken := by
  intro xs
  refine ⟨fun k hk => ?_, ?_⟩
  · obtain ⟨u, reached, left⟩ := run_takes_inputs xs hk.le
    have pending : u.inputs ≠ [] := by rw [left]; exact List.drop_eq_nil_iff.not.mpr hk.not_ge
    exact ⟨u, reached, left, observation_pending pending⟩
  · obtain ⟨t, reached, taken, stays⟩ := runFromReset_ends xs
    exact ⟨t, reached, taken, observation_of_no_input taken, stays⟩

/-! ### Refused runs -/

theorem run_refused {n : Nat} {s t : State} (hr : s.refused = true) (h : run n s = .next t) : t.refused = true :=
  run_invariant (P := fun u => u.refused = true) (fun _ _ => step_refused) n hr h

/-- A run in which a listening block takes an illegal command word is refused from there on. -/
theorem run_illegal_word {n k : Nat} {s t u : State} {w : Byte} {rest : List Input} (reached : run k s = .next u) (hk : k < n)
    (hl : Listening u) (hi : u.inputs = .cmd w :: rest) (hw : w ∉ legalCommandWords) (h : run n s = .next t) :
    t.refused = true := by
  obtain ⟨m, rfl⟩ := Nat.exists_eq_add_of_lt hk
  rw [Nat.add_assoc, run_add reached, run_succ (step_illegal_word hl hi hw)] at h
  exact run_refused (refuse_refused _) h

/-- An input left to take after k steps is one of the sequence: the run has not ended. -/
theorem lt_length_of_pending {xs : List Input} {k : Nat} {u : State} (reached : run k (present xs State.reset) = .next u)
    (pending : u.inputs ≠ []) : k < xs.length := by
  by_contra ended
  obtain ⟨t, _, taken, stays⟩ := runFromReset_ends xs
  obtain ⟨m, rfl⟩ := Nat.exists_eq_add_of_le (Nat.le_of_not_lt ended)
  obtain rfl := Host.Outcome.next.inj ((stays m).symm.trans reached)
  exact pending taken

/-- Where a run goes through, its claims are those its final observation satisfies. -/
theorem runSatisfies_iff {claim : List Event → StatusView → Prop} {xs : List Input} {t : State}
    (h : runFromReset xs = .next t) : RunSatisfies claim xs ↔ ∃ es v, observation t = some (es, v) ∧ claim es v := by
  constructor
  · rintro ⟨t', es, v, h', ho, hc⟩
    obtain rfl := Host.Outcome.next.inj (h.symm.trans h')
    exact ⟨es, v, ho, hc⟩
  · rintro ⟨es, v, ho, hc⟩
    exact ⟨t, es, v, h, ho, hc⟩

/-- Settles O59: the mark stays once it is set, and an observation is of a state without it. -/
theorem refusedRunSatisfiesNoClaim : Obligations.RefusedRunSatisfiesNoClaim := by
  refine ⟨fun n s t hr h => observation_refused (run_refused hr h),
    fun n k s t u w rest reached hk hl hi hw h => observation_refused (run_illegal_word reached hk hl hi hw h),
    fun claim xs => ⟨fun k u w rest reached hl hi hw => ?_, fun t h hr => ?_⟩⟩
  · rintro ⟨t, es, v, h, ho, _⟩
    have hk : k < xs.length := lt_length_of_pending reached (by rw [hi]; exact List.cons_ne_nil _ _)
    have unseen : observation t = none := observation_refused (run_illegal_word reached hk hl hi hw h)
    rw [unseen] at ho
    cases ho
  · obtain ⟨t', h', taken, _⟩ := runFromReset_ends xs
    obtain rfl := Host.Outcome.next.inj (h.symm.trans h')
    rw [runSatisfies_iff h, observation_ended hr taken]
    simp

end Sys2Proof.Machine
end

section
/-! SUPPORT. An error is a next state, never the lack of one (43_telemetry.md R205, 46_control.md R276, 60_exceptions.md R304, R307). -/

namespace Sys2Proof.Machine

/-- An input is dropped or runs its token, and every token answers a next state. -/
theorem step_next {s : State} (hu : s.unitToken = none) : ∃ t, step s = .next t := by
  rcases step_input s hu with ⟨_, waits⟩ | ⟨x, rest, _, _, drops⟩ | ⟨x, rest, i, _, _, _, runs⟩
  · exact ⟨s, waits⟩
  · exact ⟨setInputs rest s, drops⟩
  · rw [runs]
    exact exec_next i (setInputs rest s)

/-- Settles O11: a step answers a next state, and no token that is an input fills the latch. -/
theorem everyStepAnswersNext : Obligations.EveryStepAnswersNext := by
  intro s hu
  obtain ⟨t, answer⟩ := step_next hu
  exact ⟨t, answer, step_unitToken hu answer⟩

end Sys2Proof.Machine
end

section
/-! SUPPORT. The values reset gives the state's elements (70_reset_and_hazards.md R330). -/

namespace Sys2Proof.Machine

/-- Settles O44, by the groups of R330's action: the settings, the framer, the assembly, the counters and the bookkeeping. Each
value is a field of `State.reset`; RESET_MODE stays the OPEN parameter. -/
theorem resetLeavesStatedValues : Obligations.ResetLeavesStatedValues := by
  unfold Obligations.ResetLeavesStatedValues
  refine ⟨?mode, ?bypass, ?run, ?acc, ?inside, ?accOver, ?imgOpen, ?imgCount, ?imgBuf,
    ?cntFrames, ?cntImages, ?cntLenFail, ?cntCrcFail, ?events, ?refused⟩
  case mode | bypass | run => rfl
  case acc | inside | accOver => rfl
  case imgOpen | imgCount | imgBuf => rfl
  case cntFrames | cntImages | cntLenFail | cntCrcFail => rfl
  case events | refused => rfl

end Sys2Proof.Machine
end
